-- ==== Sys2Proof/Word.lean ====
section
/-! DEFINITION. The word types of the block: a byte, a 16-bit bus address, the 27-bit stimulus word.
00_scope.md R11, R12 (a byte is 8 bits, bit 0 the least significant); 30_encoding.md R130 (the stimulus word). -/

namespace Sys2Proof

/-- A byte, bits 7..0 (R11). -/
abbrev Byte := BitVec 8

/-- A 16-bit IO port address or memory address (R8: IO_ADDR_BITS, MEM_ADDR_BITS). -/
abbrev Addr := BitVec 16

/-- A stimulus word W[26:0] (R130). -/
abbrev StimWord := BitVec 27

end Sys2Proof
end

