-- ==== Sys2Proof/Config.lean ====
section
/-! DEFINITION. The parameters of 00_scope.md R8 and R9, the reference profile, and the free values.

`Params` is plain data and stands in the state, so that a statement about every state ranges over every value of
every parameter (R10); `Params.wf` is the conjunction of the constraints the rules state. The OPEN parameters of R9
and every `draw(...)` of the rules are opaque constants: nothing in Lean can evaluate them. -/

namespace Sys2Proof

/-- The SyncTimer functions that IO address bits 9..8 name (R135). -/
inductive CrtcFn where
  | select | write | status | read
deriving DecidableEq, Repr

/-- The PPI functions that IO address bits 9..8 name (R135). -/
inductive PpiFn where
  | portA | portB | portC | control
deriving DecidableEq, Repr

/-- The palette-chip functions that data bits 7..6 name (R136). -/
inductive PalFn where
  | selectPen | setColour | modeRom | bank
deriving DecidableEq, Repr

/-- The SoundChip bus functions that port C bits 7..6 name (R139, R331). -/
inductive PsgFn where
  | inactive | read | write | select
deriving DecidableEq, Repr

/-- VSYNC_CHECK: where the vsync start condition is tested (R217). -/
inductive VsyncCheck where
  | perScanline | perRow
deriving DecidableEq, Repr

/-- RESET_UNKNOWN: what an unknown reset value is (R490). -/
inductive ResetUnknown where
  | draw | fault
deriving DecidableEq, Repr

/-- LFSR_FORM: the noise shift-register step (R375). `galois c` XORs the 18-bit constant `c` in before the shift when
bit 0 is set; `other` is any other map on non-zero values, see `Config.lfsrOther`. -/
inductive LfsrForm where
  | galois (c : BitVec 18)
  | other
deriving DecidableEq, Repr

/-- CRTC_INDEX: the register number of each SyncTimer register a rule names (R33). -/
structure CrtcIndex where
  ht : Fin 18
  hsp : Fin 18
  sw : Fin 18
  vt : Fin 18
  vsp : Fin 18
  mra : Fin 18
deriving DecidableEq, Repr

/-- The parameters of R9 a run fixes. SAMPLE_CONVERT and the oracles are functions and stand below as opaque
constants; TICK_RATE is read by no rule (R9) and OVERRUN_POLICY has the one value `fault` (D4). -/
structure Params where
  /-- CRTC_INDEX (R33). -/
  crtcIndex : CrtcIndex
  /-- CRTC_MASK (R34). -/
  crtcMask : Vector Byte 18
  /-- FIRST_RW_REG (R201). -/
  firstRwReg : Nat
  /-- CRTC_FN by the value of P[9:8] (R135). -/
  crtcFn : Vector CrtcFn 4
  /-- PAL_FN by the value of D[7:6] (R136). -/
  palFn : Vector PalFn 4
  /-- UPPER_ROM_DISABLE_BIT (R50). -/
  upperRomDisableBit : Nat
  /-- LOWER_ROM_DISABLE_BIT (R50). -/
  lowerRomDisableBit : Nat
  /-- INT_DELAY_BIT (R50). -/
  intDelayBit : Nat
  /-- BANK_TABLE by bank configuration and logical window (R97). -/
  bankTable : Vector (Vector (Fin 8) 4) 8
  /-- PPI_FN by the value of P[9:8] (R135). -/
  ppiFn : Vector PpiFn 4
  /-- PORTB_STATIC; bit 0 is not used (R301). -/
  portBStatic : Byte
  /-- PSG_FN by the value of latchC[7:6] (R331). -/
  psgFnOf : Vector PsgFn 4
  /-- PSG_MASK (R60). -/
  psgMask : Vector Byte 16
  /-- ENV_TABLE by shape (R385). -/
  envTable : Vector (List (BitVec 4)) 16
  /-- LFSR_FORM (R375). -/
  lfsrForm : LfsrForm
  /-- VOLUME_TABLE, non-negative (R379). -/
  volumeTable : Vector Nat 16
  /-- SAMPLE_DECIMATION (R391). -/
  sampleDecimation : Nat
  /-- BUFFER_CAPACITY (R393). -/
  bufferCapacity : Nat
  /-- VSYNC_CHECK (R217). -/
  vsyncCheck : VsyncCheck
  /-- RESET_UNKNOWN (R490). -/
  resetUnknown : ResetUnknown
deriving DecidableEq, Repr

/-! The OPEN parameters of R9 and the oracles: free values (log 4, 16, 18). -/

/-- VOLUME_TABLE is OPEN (R379). -/
opaque Config.volumeTable : Vector Nat 16

/-- SAMPLE_DECIMATION minus one: the parameter is a natural number of at least 1 (R391). -/
opaque Config.sampleDecimationPred : Nat

/-- BUFFER_CAPACITY is OPEN (R393). -/
opaque Config.bufferCapacity : Nat

/-- SAMPLE_CONVERT is OPEN: a function from integers to 16-bit values (R392); signed or unsigned is left open with it
(log 25). -/
opaque Config.sampleConvert : Int → BitVec 16

/-- The map of LFSR_FORM `other` (R375). -/
opaque Config.lfsrOther : BitVec 17 → BitVec 17

/-- KEYBOARD_INPUT(row), the byte the keyboard presents; the second argument makes each call fresh (R346). -/
opaque Config.keyboardInput : BitVec 4 → Nat → Byte

/-- SINK_ACCEPT: whether the audio sink accepts a hand-off; one fresh answer per call (R418). -/
opaque Config.sinkAccept : Nat → Bool

/-! The `draw(S)` primitive of R13, one opaque constant per set S, applied to the counter of draws (log 8). -/

/-- `draw(0..255)`. -/
opaque Config.drawByte : Nat → Byte

/-- `draw(0..15)`. -/
opaque Config.drawNibble : Nat → BitVec 4

/-- The choice of `draw([old, new])`: true takes the new value (R294). -/
opaque Config.drawTakesNew : Nat → Bool

/-- The byte drawn at a RESET for SyncTimer register i, before its mask (R35). -/
opaque Config.drawCrtcReg : Nat → Fin 18 → Byte

/-- `draw(0..17)` for `crtcSel` (R36). -/
opaque Config.drawCrtcSel : Nat → Fin 18

/-- `draw(0..31)` for pen i (R43). -/
opaque Config.drawPen : Nat → Fin 17 → BitVec 5

/-- `draw(0..16)` for `selPen` (R44). -/
opaque Config.drawSelPen : Nat → Fin 17

/-- `draw(0..3)` for `mode` (R45). -/
opaque Config.drawMode : Nat → BitVec 2

/-- `draw(0..255)` for a RAM byte (R53): the RESET that drew it and the physical address. -/
opaque Config.drawRamByte : Nat → Nat → Byte

/-! The reference profile. -/

/-- The levels 15, 14, …, 0. -/
def fallingLevels : List (BitVec 4) := [15, 14, 13, 12, 11, 10, 9, 8, 7, 6, 5, 4, 3, 2, 1, 0]

/-- The levels 0, 1, …, 15. -/
def risingLevels : List (BitVec 4) := [0, 1, 2, 3, 4, 5, 6, 7, 8, 9, 10, 11, 12, 13, 14, 15]

/-- The reference ENV_TABLE (R385). -/
def envTableReference : Vector (List (BitVec 4)) 16 :=
  #v[fallingLevels, fallingLevels, fallingLevels, fallingLevels,
     risingLevels ++ [0], risingLevels ++ [0], risingLevels ++ [0], risingLevels ++ [0],
     fallingLevels, fallingLevels, fallingLevels ++ risingLevels, fallingLevels ++ [15],
     risingLevels, risingLevels, risingLevels ++ fallingLevels, risingLevels ++ [0]]

/-- The reference BANK_TABLE (R97). -/
def bankTableReference : Vector (Vector (Fin 8) 4) 8 :=
  #v[#v[0, 1, 2, 3], #v[0, 1, 2, 7], #v[4, 5, 6, 7], #v[0, 3, 2, 7],
     #v[0, 4, 2, 3], #v[0, 5, 2, 3], #v[0, 6, 2, 3], #v[0, 7, 2, 3]]

/-- The reference column of R9. Most values are general knowledge in the spec itself (93_implementation_defined.md
part 3); the OPEN ones are the opaque constants above. -/
def Params.reference : Params where
  crtcIndex := { ht := 0, hsp := 2, sw := 3, vt := 4, vsp := 7, mra := 9 }
  crtcMask := #v[0xFF, 0xFF, 0xFF, 0xFF, 0x7F, 0x1F, 0x7F, 0x7F, 0x03,
                 0x1F, 0x7F, 0x1F, 0x3F, 0xFF, 0x3F, 0xFF, 0x3F, 0xFF]
  firstRwReg := 14
  crtcFn := #v[.select, .write, .status, .read]
  palFn := #v[.selectPen, .setColour, .modeRom, .bank]
  upperRomDisableBit := 4
  lowerRomDisableBit := 2
  intDelayBit := 4
  bankTable := bankTableReference
  ppiFn := #v[.portA, .portB, .portC, .control]
  portBStatic := 0x7E
  psgFnOf := #v[.inactive, .read, .write, .select]
  psgMask := #v[0xFF, 0x0F, 0xFF, 0x0F, 0xFF, 0x0F, 0x1F, 0xFF,
                0x1F, 0x1F, 0x1F, 0xFF, 0xFF, 0x0F, 0xFF, 0xFF]
  envTable := envTableReference
  lfsrForm := .galois 0x24000
  volumeTable := Config.volumeTable
  sampleDecimation := Config.sampleDecimationPred + 1
  bufferCapacity := Config.bufferCapacity
  vsyncCheck := .perScanline
  resetUnknown := .draw

/-- The named roles map to distinct register numbers (R33). -/
def CrtcIndex.distinct (c : CrtcIndex) : Bool :=
  decide [c.ht, c.hsp, c.sw, c.vt, c.vsp, c.mra].Nodup

/-- The constraint on LFSR_FORM: non-zero values stay non-zero (R375). A Galois constant with bit 17 set keeps that;
`other` keeps it by the way the step uses it. -/
def LfsrForm.keepsNonZero : LfsrForm → Bool
  | .galois c => c.getLsbD 17
  | .other => true

/-- The shape tables' constraint of R385: non-empty; shapes 0 to 3 fall 15, …, 0; shape 14 starts at 0, reaches 15 and
returns to 0 at its last entry. -/
def envTableWf (t : Vector (List (BitVec 4)) 16) : Bool :=
  t.toList.all (fun l => !l.isEmpty) &&
  (t[0] == fallingLevels) && (t[1] == fallingLevels) && (t[2] == fallingLevels) && (t[3] == fallingLevels) &&
  (t[14].head? == some 0) && t[14].contains 15 && (t[14].getLast? == some 0)

/-- The constraints the rules put on the parameters (R10): R33, R50, R60, R97, R135, R136, R201, R331, R375, R385,
R391. A mask, a port B value, a volume table, a buffer capacity and the two profile switches are unconstrained. -/
def Params.wf (p : Params) : Bool :=
  p.crtcIndex.distinct &&
  decide (p.firstRwReg ≤ 18) &&
  decide p.crtcFn.toList.Nodup && decide p.palFn.toList.Nodup &&
  decide p.ppiFn.toList.Nodup && decide p.psgFnOf.toList.Nodup &&
  decide (2 ≤ p.upperRomDisableBit ∧ p.upperRomDisableBit ≤ 5) &&
  decide (2 ≤ p.lowerRomDisableBit ∧ p.lowerRomDisableBit ≤ 5) &&
  decide (2 ≤ p.intDelayBit ∧ p.intDelayBit ≤ 5) &&
  decide (p.upperRomDisableBit ≠ p.lowerRomDisableBit) &&
  (p.bankTable[0] == #v[0, 1, 2, 3]) &&
  (p.psgMask[13] &&& 0xF0 == 0) &&
  envTableWf p.envTable &&
  p.lfsrForm.keepsNonZero &&
  decide (1 ≤ p.sampleDecimation)

end Sys2Proof
end

