-- ==== Sys2Proof/Machine/Ports.lean ====
section
/-! DEFINITION. The fields of a bus access that select a device and a function: the IO priority chain (30_encoding.md
R133), the function fields of address and data (R135, R136) and the control-word kinds of the PPI (R138). -/

namespace Sys2Proof

/-- The devices of the IO space (R133). -/
inductive Device where
  | pal | ramcfg | crtc | romsel | printer | ppi | expansion | unknown
deriving DecidableEq, Repr

/-- The device an IO port address selects: the priority chain of R133, tested from bit 15 down. -/
def device (p : Addr) : Device :=
  if !p.getLsbD 15 && p.getLsbD 14 then .pal
  else if !p.getLsbD 15 && !p.getLsbD 14 then .ramcfg
  else if p.getLsbD 15 && !p.getLsbD 14 then .crtc
  else if !p.getLsbD 13 then .romsel
  else if !p.getLsbD 12 then .printer
  else if !p.getLsbD 11 then .ppi
  else if !p.getLsbD 10 then .expansion
  else .unknown

/-- The function field P[9:8] of a SyncTimer or PPI port (R133). -/
def portFn (p : Addr) : BitVec 2 := p.extractLsb' 8 2

/-- The function field D[7:6] of a palette write (R136). -/
def dataFn (d : Byte) : BitVec 2 := d.extractLsb' 6 2

/-- The SyncTimer function a port names (R135). -/
def Params.crtcFnOf (q : Params) (p : Addr) : CrtcFn := q.crtcFn[(portFn p).toNat]'(portFn p).isLt

/-- The PPI function a port names (R135). -/
def Params.ppiFnOf (q : Params) (p : Addr) : PpiFn := q.ppiFn[(portFn p).toNat]'(portFn p).isLt

/-- The palette function a data byte names (R136). -/
def Params.palFnOf (q : Params) (d : Byte) : PalFn := q.palFn[(dataFn d).toNat]'(dataFn d).isLt

/-- A PPI control byte with bit 7 set is a mode set, one with bit 7 clear a port C bit set/reset (R138). -/
def isModeSet (d : Byte) : Bool := d.getLsbD 7

end Sys2Proof
end

