-- ==== Sys2Proof/Syntax.lean ====
section
/-! DEFINITION. The stimuli: one constructor per row of spec/opcode_table.json, in the table's order (30_encoding.md
R141). A bus stimulus carries its whole 16-bit port or address and, for a write, its whole data byte: which device and
function they name is `Instr.wellFormed`'s business, and the operand fields inside the byte are the meanings' (R137). -/

namespace Sys2Proof

/-- The operand record of SET_TIMING (R132). -/
structure TimingRecord where
  col : Nat
  line : Nat
  row : Nat
  hcount : Nat
  vcount : Nat
  inH : Bool
  inV : Bool
deriving DecidableEq, Repr

/-- The operand record of RESTORE_IRQ_COUNTERS (R132). -/
structure IrqRecord where
  icount : Nat
  vdelay : Nat
deriving DecidableEq, Repr

/-- A stimulus of the block (R7, R141). -/
inductive Instr where
  | palPen (port : Addr) (d : Byte)
  | palColour (port : Addr) (d : Byte)
  | palModeRom (port : Addr) (d : Byte)
  | palBank (port : Addr) (d : Byte)
  | ramcfgWr (port : Addr) (d : Byte)
  | crtcSelect (port : Addr) (d : Byte)
  | crtcWrite (port : Addr) (d : Byte)
  | crtcWrFn2 (port : Addr) (d : Byte)
  | crtcWrFn3 (port : Addr) (d : Byte)
  | romselWr (port : Addr) (d : Byte)
  | printerWr (port : Addr) (d : Byte)
  | ppiAWr (port : Addr) (d : Byte)
  | ppiBWr (port : Addr) (d : Byte)
  | ppiCWr (port : Addr) (d : Byte)
  | ppiCtrlMode (port : Addr) (d : Byte)
  | ppiCtrlBsr (port : Addr) (d : Byte)
  | expWr (port : Addr) (d : Byte)
  | unknownWr (port : Addr) (d : Byte)
  | palRd (port : Addr)
  | ramcfgRd (port : Addr)
  | crtcRdFn0 (port : Addr)
  | crtcRdFn1 (port : Addr)
  | crtcStatusRd (port : Addr)
  | crtcRead (port : Addr)
  | romselRd (port : Addr)
  | printerRd (port : Addr)
  | ppiARd (port : Addr)
  | ppiBRd (port : Addr)
  | ppiCRd (port : Addr)
  | ppiCtrlRd (port : Addr)
  | expRd (port : Addr)
  | unknownRd (port : Addr)
  | memRead (addr : Addr)
  | memWrite (addr : Addr) (v : Byte)
  | clock
  | intack
  | reset
  | setTiming (t : TimingRecord)
  | restoreIrqCounters (t : IrqRecord)
  | psgHostSelect (r : Byte)
  | psgHostWrite (v : Byte)
  | setIrqLine (b : Bool)
  | queryVsync
  | audioFlush
deriving DecidableEq, Repr

/-- A stimulus as the driver issues it: the 27-bit word, and beside it the operand records that SET_TIMING and
RESTORE_IRQ_COUNTERS read (R130, R132). A word that reads no record ignores them (log 19). -/
structure Stimulus where
  word : StimWord
  timing : TimingRecord
  irqCounters : IrqRecord
deriving DecidableEq, Repr

/-- The record of zeros. -/
def TimingRecord.zero : TimingRecord :=
  { col := 0, line := 0, row := 0, hcount := 0, vcount := 0, inH := false, inV := false }

/-- The record of zeros. -/
def IrqRecord.zero : IrqRecord := { icount := 0, vdelay := 0 }

/-- A stimulus whose word reads no record. -/
def Stimulus.ofWord (w : StimWord) : Stimulus :=
  { word := w, timing := .zero, irqCounters := .zero }

end Sys2Proof
end

