-- ==== Sys2Proof/Machine/State.lean ====
section
/-! DEFINITION. The state of the block as plain data: every component of 10_state.md R32 to R71, the parameters of
R9, and the four fields the model adds (`draws`, `returned`, `pending`, `ramEpoch`); and `State.reset`. -/

namespace Sys2Proof.Machine

/-! Faults, refusals, events. -/

/-- A register component with a reset value the spec leaves unknown, or a quantity derived from one (R490). -/
inductive Component where
  | crtcReg (i : Fin 18)
  | hw
  | vw
  | crtcSel
  | pen (i : Fin 17)
  | selPen
  | mode
  | ramByte (a : Nat)
deriving DecidableEq, Repr

/-- The info of a CONTRACT fault (R442). -/
inductive ContractInfo where
  | crtcRegisterIndex
  | psgRegisterIndex
  | bankIndex
  | setTimingBounds
  | irqCounterBounds
  | rom
  | bulk
deriving DecidableEq, Repr

/-- The info of an OVERRUN fault (R442). -/
inductive OverrunInfo where
  | col | line | row | icount | sampleBuffer
deriving DecidableEq, Repr

/-- The faults of R442, recorded in the fault mark. R441 gives a fault an entry (the mark set, the state stuck), so
raising one is a NEXT state of the model, and no step answers `Outcome.fault` (log 2). Safe: nothing the spec says of
a faulted state is left out, and the model claims no recovery. -/
inductive Fault where
  /-- Raised by a select index, bank index, host record or host call out of its bounds (R98, R101, R205, R333, R412,
  R413). Safe. -/
  | contract (info : ContractInfo)
  /-- Raised by CLOCK: a counter past its limit, `icount` past 52, or a sample into a full buffer (R216, R261, R393).
  Safe. -/
  | overrun (info : OverrunInfo)
  /-- Raised by MEM_READ when the overlay selects an absent ROM slot (R94). Safe. -/
  | romAbsent (slot : Byte)
  /-- Raised under RESET_UNKNOWN = fault by a read of a component with no value (R490). Safe. -/
  | unwritten (c : Component)
deriving DecidableEq, Repr

/-- The refusal reasons of R444, recorded in the refusal mark. R443 gives a refusal its effect (the mark set, the rest
unchanged, later stimuli run), so refusing is a NEXT state of the model (log 3). -/
inductive Refusal where
  /-- Raised by no meaning: the answer of an arm of `exec` that has none. Safe. -/
  | notModelled (mnemonic : String)
  /-- Recorded by a stimulus word that matches no row (R143). Safe. -/
  | illegalStimulus
  /-- Recorded by CRTC_WR_FN2 and CRTC_WR_FN3 (R207, R208). Safe. -/
  | undefinedFunction
  /-- Recorded by PPI_CTRL_MODE with a non-zero mode field (R303). Safe. -/
  | ppiMode
deriving DecidableEq, Repr

/-- An event of the output trace (R70). The sides of a SAMPLE are bare 16-bit values, as in `Sample` (log 25). -/
inductive Event where
  | hsync
  | vsync
  | irqSet
  | irqCancel
  | kbdRow (r : BitVec 4)
  | sample (left right : BitVec 16)
  | handoff (n : Nat)
deriving DecidableEq, Repr

/-- A stereo sample of the output buffer (R390), 16 bits a side. DESIGN CHOICE (log 25): the bits alone are held; whether
a side reads as signed or unsigned is left to the reader of the sample, as no rule reads one. -/
structure Sample where
  left : BitVec 16
  right : BitVec 16
deriving DecidableEq, Repr

/-- What the last value-returning stimulus gave its caller: the MODEL's own view of the bus (log 9). -/
inductive Returned where
  | none
  | byte (v : Byte)
  | flag (b : Bool)
deriving DecidableEq, Repr

/-! The chips. -/

/-- SyncTimer (R32 to R41). -/
structure SyncTimer where
  regs : Vector Byte 18
  crtcSel : Fin 18
  hw : Nat
  vw : Nat
  col : Nat
  line : Nat
  row : Nat
  hcount : Nat
  vcount : Nat
  inH : Bool
  inV : Bool
deriving DecidableEq, Repr

/-- PaletteAndInterruptChip (R43 to R48). -/
structure Palette where
  pens : Vector (BitVec 5) 17
  selPen : Fin 17
  mode : BitVec 2
  lowerRomEn : Bool
  upperRomEn : Bool
  icount : Nat
  vdelay : Nat
deriving DecidableEq, Repr

/-- RAM: (physical address, byte) cells. An unlisted address holds no written byte since the last RESET. -/
abbrev Memory := List Host.Cell

/-- A ROM image: 16 KB (R54, BANK_SIZE of R8). -/
abbrev RomImage := Vector Byte 0x4000

/-- The memory interface (R51 to R54). `ramEpoch` is the MODEL's own: which RESET drew the unlisted bytes (log 6). -/
structure MemoryUnit where
  bankCfg : Fin 8
  upperRomSel : Byte
  ram : Memory
  ramEpoch : Nat
  romImage : Vector (Option RomImage) 256
deriving DecidableEq, Repr

/-- A port direction (R56). -/
inductive Dir where
  | IN | OUT
deriving DecidableEq, Repr

/-- ParallelInterfaceChip (R55 to R58). -/
structure Ppi where
  latchA : Byte
  latchB : Byte
  latchC : Byte
  dirA : Dir
  dirB : Dir
  dirCl : Dir
  dirCu : Dir
  modeA : BitVec 2
  modeB : BitVec 1
  kbdRow : BitVec 4
deriving DecidableEq, Repr

/-- One tone channel of SoundChip (R64, R65, R66). -/
structure Channel where
  period : Nat
  tcount : Nat
  pol : Bool
  toneEn : Bool
  noiseEn : Bool
  vol : BitVec 4
  envF : Bool
  acc : Int
deriving DecidableEq, Repr

/-- SoundChip (R59 to R70). -/
structure SoundChip where
  regs : Vector Byte 16
  psgSel : Fin 16
  psgFn : PsgFn
  chA : Channel
  chB : Channel
  chC : Channel
  ioADirOut : Bool
  ioBDirOut : Bool
  rng : BitVec 17
  nperiod : Nat
  ncount : Nat
  nout : Bool
  eperiod : Nat
  ecount : Nat
  shape : BitVec 4
  pos : Nat
  hold : Bool
  elevel : BitVec 4
  stick : Nat
  scount : Nat
  obuf : List Sample
deriving DecidableEq, Repr

/-! The driver's side. -/

/-- A memory call of the host, made between stimuli (R98, R101). -/
inductive HostCall where
  | loadROM (index : Nat) (bytes : List Byte)
  | unloadROM (index : Nat)
  | bulkLoadRAM (bytes : List Byte) (bankCount : Nat)
  | selectBank (index : Nat)
deriving DecidableEq, Repr

/-- What the driver applies to the block: a stimulus word or a host memory call (log 1, log 10). -/
inductive Input where
  | stimulus (st : Stimulus)
  | hostCall (c : HostCall)
deriving DecidableEq, Repr

/-- The whole state (R30). -/
structure State where
  /-- The parameters of R9, fixed for the run (log 4). -/
  params : Params
  sync : SyncTimer
  pal : Palette
  /-- The interrupt request shared with the processor core (R49). -/
  irq : Bool
  mem : MemoryUnit
  ppi : Ppi
  psg : SoundChip
  /-- The output trace, oldest event first (R70). -/
  trace : List Event
  /-- The fault mark (R71, R441). -/
  faultMark : Option Fault
  /-- The refusal mark (R71, R443). -/
  refusalMark : Option Refusal
  /-- The register components that hold no value yet, consulted under RESET_UNKNOWN = fault (R490, log 7). -/
  unwritten : List Component
  /-- MODEL's own: the number of `draw` evaluations so far (log 8). -/
  draws : Nat
  /-- MODEL's own: the last value given to a caller (log 9). -/
  returned : Returned
  /-- MODEL's own: the driver's inputs not yet applied, the next one first (log 1). -/
  pending : List Input
deriving DecidableEq, Repr

/-! Reset. -/

/-- A channel after reset (R481). -/
def Channel.reset : Channel :=
  { period := 1, tcount := 0, pol := false, toneEn := true, noiseEn := true, vol := 0, envF := false, acc := 0 }

/-- SoundChip after reset, but for `elevel`, which is ENV_TABLE[0][0] (R481). -/
def SoundChip.reset (firstLevel : BitVec 4) : SoundChip :=
  { regs := Vector.replicate 16 0, psgSel := 0, psgFn := .inactive
    chA := .reset, chB := .reset, chC := .reset
    ioADirOut := false, ioBDirOut := false
    rng := 1, nperiod := 1, ncount := 0, nout := false
    eperiod := 1, ecount := 0, shape := 0, pos := 0, hold := true, elevel := firstLevel
    stick := 0, scount := 0, obuf := [] }

/-- PPI after reset (R484). -/
def Ppi.reset : Ppi :=
  { latchA := 0, latchB := 0, latchC := 0, dirA := .IN, dirB := .IN, dirCl := .IN, dirCu := .IN
    modeA := 0, modeB := 0, kbdRow := 0 }

/-- The machine right after reset (R480 to R485), in the reference profile. The components the spec draws (R[*],
`crtcSel`, `pen[*]`, `selPen`, `mode`) stand at 0 here: DESIGN CHOICE, unsafe (log 5); RAM is unlisted (log 6); the ROM
table is empty (log 10); no driver input is pending (log 1). -/
def State.reset : State :=
  { params := Params.reference
    sync := { regs := Vector.replicate 18 0, crtcSel := 0, hw := 16, vw := 16, col := 0, line := 0, row := 0
              hcount := 0, vcount := 0, inH := false, inV := false }
    pal := { pens := Vector.replicate 17 0, selPen := 0, mode := 0, lowerRomEn := true, upperRomEn := true
             icount := 0, vdelay := 0 }
    irq := false
    mem := { bankCfg := 0, upperRomSel := 0, ram := [], ramEpoch := 0, romImage := Vector.replicate 256 none }
    ppi := .reset
    psg := .reset 15
    trace := [], faultMark := none, refusalMark := none, unwritten := []
    draws := 1, returned := .none, pending := [] }

end Sys2Proof.Machine
end

