-- ==== Sys2Proof/Machine/Operands.lean ====
section
/-! DEFINITION. Operand forms: the fields the rules read out of a data byte, a port latch or a memory address
(30_encoding.md R137, R138, R139, R140; 20_memory.md R93), and the two corrections of R12. All fields are unsigned. -/

namespace Sys2Proof.Machine

/-- `width16(n)`: a width nibble of 0 means 16 (R12, R202). -/
def width16 (n : BitVec 4) : Nat := if n = 0 then 16 else n.toNat

/-- `max1(p)`: a period of 0 is 1 (R12). -/
def max1 (p : Nat) : Nat := if p = 0 then 1 else p

/-- Bits 3..0 of a byte. -/
def lowNibble (d : Byte) : BitVec 4 := d.extractLsb' 0 4

/-- Bits 7..4 of a byte. -/
def highNibble (d : Byte) : BitVec 4 := d.extractLsb' 4 4

/-- A byte from its nibbles, the high one first. -/
def fromNibbles (hi lo : BitVec 4) : Byte := hi ++ lo

/-- The pen a select-pen byte names: the border pen 16 when D[4] is set, else the ink pen D[3:0] (R252). -/
def penOf (d : Byte) : Fin 17 :=
  if d.getLsbD 4 then 16
  else ⟨(lowNibble d).toNat, Nat.lt_trans (lowNibble d).isLt (by decide)⟩

/-- The colour index D[4:0] (R253). -/
def colourOf (d : Byte) : BitVec 5 := d.extractLsb' 0 5

/-- The screen mode D[1:0] (R254). -/
def screenModeOf (d : Byte) : BitVec 2 := d.extractLsb' 0 2

/-- The bank configuration index `D & 7` (R175, R255). -/
def bankIndexOf (d : Byte) : Nat := (d &&& 7).toNat

/-- The PPI bit index D[3:1] (R304). -/
def bsrIndex (d : Byte) : BitVec 3 := d.extractLsb' 1 3

/-- The group A mode field D[6:5] (R57). -/
def groupAMode (d : Byte) : BitVec 2 := d.extractLsb' 5 2

/-- The group B mode field D[2] (R57). -/
def groupBMode (d : Byte) : BitVec 1 := d.extractLsb' 2 1

/-- A direction bit: 1 is IN, 0 is OUT (R57). -/
def dirOfBit (b : Bool) : Dir := if b then .IN else .OUT

/-- A byte with bit `n` set to `b`, the other bits as they were (R304). -/
def setBit (v : Byte) (n : BitVec 3) (b : Bool) : Byte :=
  if b then v ||| (1#8 <<< n.toNat) else v &&& ~~~(1#8 <<< n.toNat)

/-- The logical window addr[15:14] of a memory address (R93). -/
def window (a : Addr) : BitVec 2 := a.extractLsb' 14 2

/-- The offset addr[13:0] of a memory address (R93). -/
def offset (a : Addr) : BitVec 14 := a.extractLsb' 0 14

/-- The SoundChip bus function that latchC[7:6] names (R139, R331). -/
def psgFnOfLatch (q : Params) (latchC : Byte) : PsgFn :=
  q.psgFnOf[(latchC.extractLsb' 6 2).toNat]'(latchC.extractLsb' 6 2).isLt

/-- The keyboard row latchC[3:0] (R139). -/
def kbdRowOfLatch (latchC : Byte) : BitVec 4 := lowNibble latchC

/-- A 16-bit quantity from its register pair, `low + 256 * high` (R92). -/
def registerPair (low high : Byte) : Nat := low.toNat + 256 * high.toNat

end Sys2Proof.Machine
end

