-- ==== Sys2Proof/Machine/Flags.lean ====
section
/-! DEFINITION. Every boolean the rules compute: the ROM enables and the delay bit of the mode/ROM byte (R50), the
mixer enables and port directions of SoundChip register 7 (R65), the envelope-follow flag (R66), the hold flag (R342),
the channel gate (R377), the noise toggle (R375) and the port B status byte (R301). -/

namespace Sys2Proof.Machine

/-- `upperRomEn` after a mode/ROM write: its disable bit is clear (R254). -/
def upperRomEnOf (q : Params) (d : Byte) : Bool := !d.getLsbD q.upperRomDisableBit

/-- `lowerRomEn` after a mode/ROM write: its disable bit is clear (R254). -/
def lowerRomEnOf (q : Params) (d : Byte) : Bool := !d.getLsbD q.lowerRomDisableBit

/-- The delay-interrupts bit of a mode/ROM write (R254). -/
def delaysInterrupts (q : Params) (d : Byte) : Bool := d.getLsbD q.intDelayBit

/-- `toneEn` of channel k from S[7]: active low (R65). -/
def toneEnOf (mixer : Byte) (k : Nat) : Bool := !mixer.getLsbD k

/-- `noiseEn` of channel k from S[7]: active low (R65). -/
def noiseEnOf (mixer : Byte) (k : Nat) : Bool := !mixer.getLsbD (k + 3)

/-- The envelope-follow flag, bit 4 of a volume register (R66). -/
def envFollowOf (volume : Byte) : Bool := volume.getLsbD 4

/-- The hold flag of a shape: shapes 0..7 and the odd ones hold (R342). -/
def holdOf (shape : BitVec 4) : Bool := decide (shape.toNat < 8) || decide (shape.toNat % 2 = 1)

/-- A channel's output: high when each enabled source is high (R377). -/
def gate (pol toneEn nout noiseEn : Bool) : Bool := (pol || !toneEn) && (nout || !noiseEn)

/-- Whether an LFSR step toggles `nout`: `(rng + 1) & 2` is not 0, before the shift (R375). -/
def togglesNoise (rng : BitVec 17) : Bool := (rng + 1) &&& 2 != 0

/-- `portBStatus()`: PORTB_STATIC for bits 7..1, `inV` for bit 0 (R301). -/
def portBStatus (q : Params) (inV : Bool) : Byte := (q.portBStatic &&& 0xFE) ||| (if inV then 1 else 0)

end Sys2Proof.Machine
end

