-- ==== Sys2Proof/Machine/Ops.lean ====
section
/-! DEFINITION. The named operations every meaning is built from: updates of one part of the state, raising a fault
and refusing (60_exceptions.md), draws, reads of components that may be unwritten, RAM and ROM access (20_memory.md)
and the host's memory calls. -/

namespace Sys2Proof.Machine

/-! Updates of one part of the state. -/

def State.setSync (s : State) (x : SyncTimer) : State := { s with sync := x }
def State.setPal (s : State) (x : Palette) : State := { s with pal := x }
def State.setIrq (s : State) (x : Bool) : State := { s with irq := x }
def State.setMem (s : State) (x : MemoryUnit) : State := { s with mem := x }
def State.setPpi (s : State) (x : Ppi) : State := { s with ppi := x }
def State.setPsg (s : State) (x : SoundChip) : State := { s with psg := x }
def State.setUnwritten (s : State) (x : List Component) : State := { s with unwritten := x }
def State.setPending (s : State) (x : List Input) : State := { s with pending := x }

/-- `emit E`: append to the output trace (R13, R70). -/
def State.emit (s : State) (e : Event) : State := { s with trace := s.trace ++ [e] }

/-- Give a value to the caller (log 9). -/
def State.give (s : State) (v : Returned) : State := { s with returned := v }

/-- Count one `draw` evaluation, so that the next one is fresh (R13, log 8). -/
def State.drawn (s : State) : State := { s with draws := s.draws + 1 }

/-- The component holds a value from now on (R490). -/
def State.markWritten (s : State) (c : Component) : State :=
  { s with unwritten := s.unwritten.filter (fun x => x != c) }

/-! Faults and refusals. -/

/-- TAKING A FAULT: `raise Fault(code, info)` sets the fault mark and keeps every component as written so far (R441).
There is no return from it (R441, R454). -/
def State.raiseFault (s : State) (f : Fault) : State := { s with faultMark := some f }

/-- `refuse(reason)`: the refusal mark is set, the first reason is kept, nothing else changes (R443). -/
def State.refuse (s : State) (r : Refusal) : State :=
  { s with refusalMark := some (s.refusalMark.getD r) }

/-- A stimulus under way: still running, or ended by a raise (R441: "ends the stimulus at the point of the raise"). -/
inductive Flow where
  | running (s : State)
  | ended (s : State)
deriving DecidableEq, Repr

/-- The state reached. -/
def Flow.state : Flow → State
  | .running s => s
  | .ended s => s

/-- Go on with the next statement, unless a raise ended the stimulus (R14). -/
def Flow.andThen (f : Flow) (k : State → Flow) : Flow :=
  match f with
  | .running s => k s
  | .ended s => .ended s

/-- `raise Fault(code, info)` as the end of a stimulus (R13). -/
def raiseAndEnd (s : State) (f : Fault) : Flow := .ended (s.raiseFault f)

/-- The frame of every stimulus: a state with a fault mark is stuck, no stimulus changes it (R441); otherwise the
stimulus runs to its end or to its first raise, and the state reached is the next state. -/
def stimulus (s : State) (body : State → Flow) : Host.Outcome State Fault Refusal :=
  match s.faultMark with
  | some _ => .next s
  | none => .next (body s).state

/-! Reads of components that may be unwritten (R490). -/

/-- The register component is unwritten: only under RESET_UNKNOWN = fault. `hw` and `vw` are unwritten with R[SW]. -/
def isUnwritten (s : State) (c : Component) : Bool :=
  s.params.resetUnknown == .fault &&
  (match c with
   | .hw => s.unwritten.contains (.crtcReg s.params.crtcIndex.sw)
   | .vw => s.unwritten.contains (.crtcReg s.params.crtcIndex.sw)
   | c => s.unwritten.contains c)

/-- Read component `c`: UNWRITTEN when it holds no value, else go on. -/
def reading (c : Component) (s : State) (k : State → Flow) : Flow :=
  if isUnwritten s c then raiseAndEnd s (.unwritten c) else k s

/-! The SyncTimer registers as the rules name them (R33). -/

/-- `R[i]`. -/
def State.crtc (s : State) (i : Fin 18) : Byte := s.sync.regs[i]

/-- `R[HT]` as a number. -/
def State.ht (s : State) : Nat := (s.crtc s.params.crtcIndex.ht).toNat
/-- `R[HSP]` as a number. -/
def State.hsp (s : State) : Nat := (s.crtc s.params.crtcIndex.hsp).toNat
/-- `R[VT]` as a number. -/
def State.vt (s : State) : Nat := (s.crtc s.params.crtcIndex.vt).toNat
/-- `R[VSP]` as a number. -/
def State.vsp (s : State) : Nat := (s.crtc s.params.crtcIndex.vsp).toNat
/-- `R[MRA]` as a number. -/
def State.mra (s : State) : Nat := (s.crtc s.params.crtcIndex.mra).toNat

/-- The derived widths of a register file, recomputed from R[SW] (R37, R203). -/
def SyncTimer.withWidths (t : SyncTimer) (sw : Fin 18) : SyncTimer :=
  { t with hw := width16 (lowNibble t.regs[sw]), vw := width16 (highNibble t.regs[sw]) }

/-! RAM. -/

/-- The number of RAM bytes: 8 banks of 16 KB (R53). -/
def ramSize : Nat := 8 * 0x4000

/-- The byte written at an address since the last RESET, if any. -/
def Memory.read : Memory → Nat → Option Byte
  | [], _ => none
  | (b, v) :: m, a => if b = a then some v else Memory.read m a

/-- Store a byte, keeping the addresses strictly rising. -/
def Memory.write : Memory → Nat → Byte → Memory
  | [], a, v => [(a, v)]
  | (b, u) :: m, a, v =>
    if a < b then (a, v) :: (b, u) :: m
    else if a = b then (a, v) :: m
    else (b, u) :: Memory.write m a v

/-- Every address of the list is at least `lo` and the addresses rise strictly. -/
def Memory.risesFrom : Nat → Memory → Bool
  | _, [] => true
  | lo, (a, _) :: m => decide (lo ≤ a) && Memory.risesFrom (a + 1) m

/-- The canonical form: addresses strictly rising and inside RAM. An unlisted address reads as "no byte written", so
no entry can equal what an unlisted address reads as (log 6). -/
def Memory.wf (m : Memory) : Bool := Memory.risesFrom 0 m && m.all (fun c => decide (c.1 < ramSize))

/-- The physical RAM address of a memory address through the active bank table (R93, R94, R95). -/
def ramAddress (s : State) (a : Addr) : Nat :=
  (((s.params.bankTable[s.mem.bankCfg])[(window a).toNat]'(window a).isLt).val) * 0x4000 + (offset a).toNat

/-- The byte a RAM address holds: the one written since RESET, or the one RESET drew (R53, R490, log 6). -/
def ramByte (s : State) (a : Nat) : Byte :=
  (s.mem.ram.read a).getD (Config.drawRamByte s.mem.ramEpoch a)

/-- A read of RAM: UNWRITTEN under RESET_UNKNOWN = fault where nothing was written (R490). -/
def readRam (s : State) (a : Nat) : Except Fault Byte :=
  if s.params.resetUnknown = .fault ∧ s.mem.ram.read a = none then .error (.unwritten (.ramByte a))
  else .ok (ramByte s a)

/-- The image in a ROM slot (R54). -/
def romSlot (s : State) (i : Byte) : Option RomImage := s.mem.romImage[i.toNat]'i.isLt

/-- The byte of an image at a memory address's offset. -/
def romByte (img : RomImage) (a : Addr) : Byte := img[(offset a).toNat]'(offset a).isLt

/-- A read served by ROM slot `i` (R94). -/
def readRom (s : State) (i : Byte) (a : Addr) : Except Fault Byte :=
  match romSlot s i with
  | some img => .ok (romByte img a)
  | none => .error (.romAbsent i)

/-- The slot an upper-ROM read uses: the selected one, or 0 where that one is absent (R94). -/
def upperSlot (s : State) : Byte :=
  if (romSlot s s.mem.upperRomSel).isSome then s.mem.upperRomSel else 0

/-- `MemRead(addr, 1)`: the ROM overlays first, then RAM (R94). It changes no state (R103). -/
def memReadByte (s : State) (a : Addr) : Except Fault Byte :=
  if a.toNat < 0x4000 ∧ s.pal.lowerRomEn then readRom s 255 a
  else if 0xC000 ≤ a.toNat ∧ s.pal.upperRomEn then readRom s (upperSlot s) a
  else readRam s (ramAddress s a)

/-- `MemWrite(addr, 1, v)`: RAM through the bank table, whatever the overlays (R95). -/
def memWriteByte (s : State) (a : Addr) (v : Byte) : State :=
  s.setMem { s.mem with ram := s.mem.ram.write (ramAddress s a) v }

/-- `selectBank(i)` (R98). -/
def selectBank (s : State) (i : Nat) : Flow :=
  if h : i < 8 then .running (s.setMem { s.mem with bankCfg := ⟨i, h⟩ })
  else raiseAndEnd s (.contract .bankIndex)

/-! The host's memory calls (R101). -/

/-- `loadROM(i, bytes)`. -/
def loadROM (s : State) (i : Nat) (bytes : List Byte) : Flow :=
  if h : i < 256 ∧ bytes.length = 0x4000 then
    .running (s.setMem { s.mem with
      romImage := s.mem.romImage.set i (some ⟨bytes.toArray, by simpa using h.2⟩) h.1 })
  else raiseAndEnd s (.contract .rom)

/-- `unloadROM(i)`. -/
def unloadROM (s : State) (i : Nat) : Flow :=
  if h : i < 256 then .running (s.setMem { s.mem with romImage := s.mem.romImage.set i none h })
  else raiseAndEnd s (.contract .rom)

/-- The cells of consecutive bytes from an address on. -/
def cellsFrom : Nat → List Byte → Memory
  | _, [] => []
  | a, v :: vs => (a, v) :: cellsFrom (a + 1) vs

/-- `bulkLoadRAM(bytes, n)`: the first n banks are overwritten, the others keep their values. -/
def bulkLoadRAM (s : State) (bytes : List Byte) (n : Nat) : Flow :=
  if (n = 4 ∨ n = 8) ∧ bytes.length = n * 0x4000 then
    .running (s.setMem { s.mem with
      ram := cellsFrom 0 bytes ++ s.mem.ram.filter (fun c => decide (n * 0x4000 ≤ c.1)) })
  else raiseAndEnd s (.contract .bulk)

/-- A host memory call: like a stimulus, it changes nothing once a fault is marked (R441, log 11). -/
def runHostCall (c : HostCall) (s : State) : Host.Outcome State Fault Refusal :=
  stimulus s fun s =>
    match c with
    | .loadROM i bytes => loadROM s i bytes
    | .unloadROM i => unloadROM s i
    | .bulkLoadRAM bytes n => bulkLoadRAM s bytes n
    | .selectBank i => selectBank s i

/-! Values given to the caller. -/

/-- Return a byte, or take the fault its reading raised. -/
def giveByte (s : State) (r : Except Fault Byte) : Flow :=
  match r with
  | .ok v => .running (s.give (.byte v))
  | .error f => raiseAndEnd s f

/-- `return draw(0..255)`: a free byte, fresh at each read (R13, log 8). -/
def giveDrawnByte (s : State) : Flow := .running ((s.give (.byte (Config.drawByte s.draws))).drawn)

end Sys2Proof.Machine
end

