-- ==== Sys2Proof/Machine/BusPorts.lean ====
section
/-! DEFINITION. The ports with no chip of their own behind them (40_io_dispatch.md R175 to R185) and the two memory
stimuli (R173, R174). -/

namespace Sys2Proof.Machine

/-- RAMCFG_WR (R175). -/
def execRamcfgWr (_port : Addr) (d : Byte) (s : State) : Host.Outcome State Fault Refusal :=
  stimulus s fun s => selectBank s (bankIndexOf d)

/-- ROMSEL_WR (R176). -/
def execRomselWr (_port : Addr) (d : Byte) (s : State) : Host.Outcome State Fault Refusal :=
  stimulus s fun s => .running (s.setMem { s.mem with upperRomSel := d })

/-- PRINTER_WR: no state change (R177). -/
def execPrinterWr (_port : Addr) (_d : Byte) (s : State) : Host.Outcome State Fault Refusal :=
  stimulus s .running

/-- EXP_WR: no state change (R178). -/
def execExpWr (_port : Addr) (_d : Byte) (s : State) : Host.Outcome State Fault Refusal :=
  stimulus s .running

/-- UNKNOWN_WR: no state change (R179). -/
def execUnknownWr (_port : Addr) (_d : Byte) (s : State) : Host.Outcome State Fault Refusal :=
  stimulus s .running

/-- RAMCFG_RD (R181). -/
def execRamcfgRd (_port : Addr) (s : State) : Host.Outcome State Fault Refusal :=
  stimulus s giveDrawnByte

/-- ROMSEL_RD (R182). -/
def execRomselRd (_port : Addr) (s : State) : Host.Outcome State Fault Refusal :=
  stimulus s giveDrawnByte

/-- PRINTER_RD (R183). -/
def execPrinterRd (_port : Addr) (s : State) : Host.Outcome State Fault Refusal :=
  stimulus s giveDrawnByte

/-- EXP_RD (R184). -/
def execExpRd (_port : Addr) (s : State) : Host.Outcome State Fault Refusal :=
  stimulus s giveDrawnByte

/-- UNKNOWN_RD: "reads return 0xFF" (R185). -/
def execUnknownRd (_port : Addr) (s : State) : Host.Outcome State Fault Refusal :=
  stimulus s fun s => giveByte s (.ok 0xFF)

/-- MEM_READ (R173). -/
def execMemRead (a : Addr) (s : State) : Host.Outcome State Fault Refusal :=
  stimulus s fun s => giveByte s (memReadByte s a)

/-- MEM_WRITE (R174). -/
def execMemWrite (a : Addr) (v : Byte) (s : State) : Host.Outcome State Fault Refusal :=
  stimulus s fun s => .running (memWriteByte s a v)

end Sys2Proof.Machine
end

