-- ==== Sys2Proof/Machine/PaletteChip.lean ====
section
/-! DEFINITION. PaletteAndInterruptChip (42_palette_interrupt.md): its four write functions, its undefined read
(40_io_dispatch.md R180), and the hsync, vsync and acknowledge listeners. -/

namespace Sys2Proof.Machine

/-- "request an interrupt" (R267). -/
def requestIrq (s : State) : State := (s.setIrq true).emit .irqSet

/-- "cancels any pending interrupt request" (R267). -/
def cancelIrq (s : State) : State := (s.setIrq false).emit .irqCancel

/-- PAL_PEN (R252). -/
def execPalPen (_port : Addr) (d : Byte) (s : State) : Host.Outcome State Fault Refusal :=
  stimulus s fun s => .running ((s.setPal { s.pal with selPen := penOf d }).markWritten .selPen)

/-- PAL_COLOUR (R253). -/
def execPalColour (_port : Addr) (d : Byte) (s : State) : Host.Outcome State Fault Refusal :=
  stimulus s fun s =>
    reading .selPen s fun s =>
      .running ((s.setPal { s.pal with pens := s.pal.pens.set s.pal.selPen (colourOf d) }).markWritten
        (.pen s.pal.selPen))

/-- PAL_MODE_ROM (R254). -/
def execPalModeRom (_port : Addr) (d : Byte) (s : State) : Host.Outcome State Fault Refusal :=
  stimulus s fun s =>
    let s := (s.setPal { s.pal with
      mode := screenModeOf d
      upperRomEn := upperRomEnOf s.params d
      lowerRomEn := lowerRomEnOf s.params d }).markWritten .mode
    if delaysInterrupts s.params d then .running (cancelIrq (s.setPal { s.pal with icount := 0 }))
    else .running s

/-- PAL_BANK (R255). -/
def execPalBank (_port : Addr) (d : Byte) (s : State) : Host.Outcome State Fault Refusal :=
  stimulus s fun s => selectBank s (bankIndexOf d)

/-- PAL_RD (R180). -/
def execPalRd (_port : Addr) (s : State) : Host.Outcome State Fault Refusal :=
  stimulus s giveDrawnByte

/-- `Palette.onHsync()` (R260, R261). -/
def palOnHsync (s : State) : Flow :=
  let s := s.setPal { s.pal with icount := s.pal.icount + 1 }
  if s.pal.vdelay = 0 then
    if 52 < s.pal.icount then raiseAndEnd s (.overrun .icount)
    else if s.pal.icount = 52 then
      let s := requestIrq s
      .running (s.setPal { s.pal with icount := 0 })
    else .running s
  else
    let s := s.setPal { s.pal with vdelay := s.pal.vdelay - 1 }
    if s.pal.vdelay = 0 then
      let s := if 32 ≤ s.pal.icount then requestIrq s else s
      .running (s.setPal { s.pal with icount := 0 })
    else .running s

/-- `Palette.onVsync()` (R262). -/
def palOnVsync (s : State) : State := s.setPal { s.pal with vdelay := 2 }

/-- `icount & ~0x20` on a natural number (R264). -/
def clearBit5 (n : Nat) : Nat := if n.testBit 5 then n - 32 else n

/-- `Palette.onAck()` (R264). -/
def palOnAck (s : State) : State := s.setPal { s.pal with icount := clearBit5 s.pal.icount }

end Sys2Proof.Machine
end

