-- ==== Sys2Proof/Machine/Crtc.lean ====
section
/-! DEFINITION. SyncTimer (41_synctimer.md): its register access (R205 to R212) and `onClock` (R215 to R217). -/

namespace Sys2Proof.Machine

/-! Register access. -/

/-- CRTC_SELECT (R205): the index is the whole byte. -/
def execCrtcSelect (_port : Addr) (d : Byte) (s : State) : Host.Outcome State Fault Refusal :=
  stimulus s fun s =>
    if h : d.toNat < 18 then .running ((s.setSync { s.sync with crtcSel := ⟨d.toNat, h⟩ }).markWritten .crtcSel)
    else raiseAndEnd s (.contract .crtcRegisterIndex)

/-- `R[i] <- v & CRTC_MASK[i]`, and the widths when `i` is SW (R203, R206). -/
def writeCrtc (s : State) (i : Fin 18) (v : Byte) : State :=
  let t : SyncTimer := { s.sync with regs := s.sync.regs.set i (v &&& s.params.crtcMask[i]) }
  (s.setSync (if i = s.params.crtcIndex.sw then t.withWidths i else t)).markWritten (.crtcReg i)

/-- CRTC_WRITE (R206). -/
def execCrtcWrite (_port : Addr) (d : Byte) (s : State) : Host.Outcome State Fault Refusal :=
  stimulus s fun s => reading .crtcSel s fun s => .running (writeCrtc s s.sync.crtcSel d)

/-- CRTC_WR_FN2: refused, the document defines no such function (R207). -/
def execCrtcWrFn2 (_port : Addr) (_d : Byte) (s : State) : Host.Outcome State Fault Refusal :=
  stimulus s fun s => .running (s.refuse .undefinedFunction)

/-- CRTC_WR_FN3: refused, the document defines no such function (R208). -/
def execCrtcWrFn3 (_port : Addr) (_d : Byte) (s : State) : Host.Outcome State Fault Refusal :=
  stimulus s fun s => .running (s.refuse .undefinedFunction)

/-- CRTC_RD_FN0 (R209). -/
def execCrtcRdFn0 (_port : Addr) (s : State) : Host.Outcome State Fault Refusal :=
  stimulus s giveDrawnByte

/-- CRTC_RD_FN1 (R210). -/
def execCrtcRdFn1 (_port : Addr) (s : State) : Host.Outcome State Fault Refusal :=
  stimulus s giveDrawnByte

/-- CRTC_STATUS_RD (R211). -/
def execCrtcStatusRd (_port : Addr) (s : State) : Host.Outcome State Fault Refusal :=
  stimulus s giveDrawnByte

/-- CRTC_READ (R212): registers below FIRST_RW_REG are write-only and read as 0. -/
def execCrtcRead (_port : Addr) (s : State) : Host.Outcome State Fault Refusal :=
  stimulus s fun s =>
    reading .crtcSel s fun s =>
      if s.sync.crtcSel.val < s.params.firstRwReg then giveByte s (.ok 0)
      else reading (.crtcReg s.sync.crtcSel) s fun s => giveByte s (.ok (s.crtc s.sync.crtcSel))

/-! The clock (R215), one definition per paragraph of its pseudocode. -/

/-- `col <- col + 1` and the column overrun check (R216). -/
def clockColumn (s : State) : Flow :=
  let s := s.setSync { s.sync with col := s.sync.col + 1 }
  reading (.crtcReg s.params.crtcIndex.ht) s fun s =>
    if s.ht + 1 < s.sync.col then raiseAndEnd s (.overrun .col) else .running s

/-- The horizontal countdown. -/
def SyncTimer.countH (t : SyncTimer) : SyncTimer :=
  if t.inH then { t with hcount := t.hcount - 1, inH := if t.hcount - 1 = 0 then false else t.inH } else t

/-- The vertical countdown. -/
def SyncTimer.countV (t : SyncTimer) : SyncTimer :=
  if t.inV then { t with vcount := t.vcount - 1, inV := if t.vcount - 1 = 0 then false else t.inV } else t

/-- `row <- row + 1`, its overrun check and its wrap. -/
def clockRow (s : State) : Flow :=
  let s := s.setSync { s.sync with line := 0, row := s.sync.row + 1 }
  reading (.crtcReg s.params.crtcIndex.vt) s fun s =>
    if s.vt + 1 < s.sync.row then raiseAndEnd s (.overrun .row)
    else if s.sync.row = s.vt + 1 then .running (s.setSync { s.sync with row := 0 })
    else .running s

/-- `line <- line + 1`, its overrun check and its wrap. -/
def clockLine (s : State) : Flow :=
  let s := s.setSync { s.sync with line := s.sync.line + 1 }
  reading (.crtcReg s.params.crtcIndex.mra) s fun s =>
    if s.mra + 1 < s.sync.line then raiseAndEnd s (.overrun .line)
    else if s.sync.line = s.mra + 1 then clockRow s
    else .running s

/-- Entering vsync: the flag, the countdown, the event, then the listeners in order (R42, R188). An unwritten width is
read, and raises, after the flag is written (R14, R441). -/
def enterVsync (s : State) : Flow :=
  reading .vw (s.setSync { s.sync with inV := true }) fun s =>
    .running (palOnVsync ((s.setSync { s.sync with vcount := s.sync.vw }).emit .vsync))

/-- The vsync test at an end of scanline (R217). -/
def vsyncTest (s : State) : Flow :=
  if s.params.vsyncCheck = .perScanline ∨ s.sync.line = 0 then
    if s.sync.inV then .running s
    else reading (.crtcReg s.params.crtcIndex.vsp) s fun s =>
      if s.sync.row = s.vsp then enterVsync s else .running s
  else .running s

/-- End of scanline. -/
def endOfScanline (s : State) : Flow :=
  let s := s.setSync { s.sync with col := 0 }
  let s := s.setSync s.sync.countV
  (clockLine s).andThen vsyncTest

/-- Entering hsync: the flag, the countdown, the event, then the listeners in order (R42, R188). An unwritten width is
read, and raises, after the flag is written (R14, R441). -/
def enterHsync (s : State) : Flow :=
  reading .hw (s.setSync { s.sync with inH := true }) fun s =>
    palOnHsync ((s.setSync { s.sync with hcount := s.sync.hw }).emit .hsync)

/-- The mid-scanline hsync test. -/
def hsyncTest (s : State) : Flow :=
  reading (.crtcReg s.params.crtcIndex.hsp) s fun s =>
    if s.sync.col = s.hsp ∧ s.sync.inH = false then enterHsync s else .running s

/-- `SyncTimer.onClock()` (R215). -/
def syncOnClock (s : State) : Flow :=
  (clockColumn s).andThen fun s =>
    let s := s.setSync s.sync.countH
    if s.sync.col = s.ht + 1 then endOfScanline s else hsyncTest s

end Sys2Proof.Machine
end

