-- ==== Sys2Proof/Machine/SoundRegs.lean ====
section
/-! DEFINITION. SoundChip register control and bus functions (44_soundchip_registers.md R330 to R346). -/

namespace Sys2Proof.Machine

/-- `S[i]`. -/
def SoundChip.reg (c : SoundChip) (i : Fin 16) : Byte := c.regs[i]

/-- `recomputeTone(A)` (R337). -/
def SoundChip.toneA (c : SoundChip) : SoundChip :=
  { c with chA := { c.chA with period := max1 (registerPair (c.reg 0) (c.reg 1)) } }

/-- `recomputeTone(B)` (R337). -/
def SoundChip.toneB (c : SoundChip) : SoundChip :=
  { c with chB := { c.chB with period := max1 (registerPair (c.reg 2) (c.reg 3)) } }

/-- `recomputeTone(C)` (R337). -/
def SoundChip.toneC (c : SoundChip) : SoundChip :=
  { c with chC := { c.chC with period := max1 (registerPair (c.reg 4) (c.reg 5)) } }

/-- `recomputeNoise()` (R338). -/
def SoundChip.noise (c : SoundChip) : SoundChip :=
  { c with nperiod := max1 (c.reg 6 &&& 0x1F).toNat }

/-- The enables of channel k from the mixer register (R339). -/
def Channel.mixed (ch : Channel) (mixer : Byte) (k : Nat) : Channel :=
  { ch with toneEn := toneEnOf mixer k, noiseEn := noiseEnOf mixer k }

/-- `recomputeMixer()` (R339). -/
def SoundChip.mixer (c : SoundChip) : SoundChip :=
  { c with
    chA := c.chA.mixed (c.reg 7) 0
    chB := c.chB.mixed (c.reg 7) 1
    chC := c.chC.mixed (c.reg 7) 2
    ioADirOut := (c.reg 7).getLsbD 6
    ioBDirOut := (c.reg 7).getLsbD 7 }

/-- `recomputeVolume(k)` for one channel (R340). -/
def Channel.voiced (ch : Channel) (volume : Byte) : Channel :=
  { ch with vol := lowNibble volume, envF := envFollowOf volume }

/-- `recomputeEnvPeriod()` (R341). -/
def SoundChip.envPeriod (c : SoundChip) : SoundChip :=
  { c with eperiod := max1 (registerPair (c.reg 11) (c.reg 12)) }

/-- The level of a shape at a position (R385). The default is reached by no well-formed ENV_TABLE (log 13). -/
def envLevel (q : Params) (shape : BitVec 4) (pos : Nat) : BitVec 4 :=
  ((q.envTable[shape.toNat]'shape.isLt)[pos]?).getD 0

/-- The number of positions of a shape (R385). -/
def envLength (q : Params) (shape : BitVec 4) : Nat := (q.envTable[shape.toNat]'shape.isLt).length

/-- `writeShape()` (R342). The shape is S[13], below 16 by the mask constraint of R60 (log 13). -/
def SoundChip.restart (c : SoundChip) (q : Params) : SoundChip :=
  let shape := lowNibble (c.reg 13)
  { c with shape := shape, pos := 0, hold := holdOf shape, ecount := 0, elevel := envLevel q shape 0 }

/-- The recompute that follows a store into register i (R336). -/
def SoundChip.recompute (c : SoundChip) (q : Params) (i : Fin 16) : SoundChip :=
  match i.val with
  | 0 => c.toneA
  | 1 => c.toneA
  | 2 => c.toneB
  | 3 => c.toneB
  | 4 => c.toneC
  | 5 => c.toneC
  | 6 => c.noise
  | 7 => c.mixer
  | 8 => { c with chA := c.chA.voiced (c.reg 8) }
  | 9 => { c with chB := c.chB.voiced (c.reg 9) }
  | 10 => { c with chC := c.chC.voiced (c.reg 10) }
  | 11 => c.envPeriod
  | 12 => c.envPeriod
  | 13 => c.restart q
  | _ => c

/-- `writeReg(i, v)`: mask, store, recompute (R336). -/
def SoundChip.writeReg (c : SoundChip) (q : Params) (i : Fin 16) (v : Byte) : SoundChip :=
  { c with regs := c.regs.set i (v &&& q.psgMask[i]) }.recompute q i

/-- `apply(SELECT, d)`: the index is the whole byte (R333). -/
def psgSelect (s : State) (d : Byte) : Flow :=
  if h : d.toNat < 16 then .running (s.setPsg { s.psg with psgSel := ⟨d.toNat, h⟩ })
  else raiseAndEnd s (.contract .psgRegisterIndex)

/-- `writeReg(psgSel, d)` (R335, R415). -/
def psgWriteSelected (s : State) (d : Byte) : State :=
  s.setPsg (s.psg.writeReg s.params s.psg.psgSel d)

/-- `apply(f, d)` (R335). -/
def psgApply (s : State) (f : PsgFn) (d : Byte) : Flow :=
  match f with
  | .inactive => .running s
  | .read => .running s
  | .write => .running (psgWriteSelected s d)
  | .select => psgSelect s d

/-- `SoundChip.control(f, d)` (R332). -/
def psgControl (s : State) (f : PsgFn) (d : Byte) : Flow :=
  psgApply (s.setPsg { s.psg with psgFn := f }) f d

/-- `SoundChip.dataBusWrite(d)`: the function last pushed stays in force (R334). -/
def psgDataBusWrite (s : State) (d : Byte) : Flow := psgApply s s.psg.psgFn d

/-- `SoundChip.busRead()` (R345, R346): the byte, and the state with the draw counted where one was made. -/
def psgBusRead (s : State) : Byte × State :=
  if s.psg.psgFn = .read then
    if s.psg.psgSel = 14 then (Config.keyboardInput s.ppi.kbdRow s.draws, s.drawn)
    else (s.psg.reg s.psg.psgSel, s)
  else (Config.drawByte s.draws, s.drawn)

end Sys2Proof.Machine
end

