-- ==== Sys2Proof/Machine/PpiChip.lean ====
section
/-! DEFINITION. ParallelInterfaceChip (43_ppi.md R290 to R305). -/

namespace Sys2Proof.Machine

/-- `portCSideEffects()` (R293): the keyboard row, its event, then the SoundChip control call with port A's latch. -/
def portCSideEffects (s : State) : Flow :=
  let s := s.setPpi { s.ppi with kbdRow := kbdRowOfLatch s.ppi.latchC }
  let s := s.emit (.kbdRow s.ppi.kbdRow)
  psgControl s (psgFnOfLatch s.params s.ppi.latchC) s.ppi.latchA

/-- The side effects run once, and only if at least one half of port C is OUT (R300, R304). -/
def portCSideEffectsIfOut (s : State) : Flow :=
  if s.ppi.dirCu = .OUT ∨ s.ppi.dirCl = .OUT then portCSideEffects s else .running s

/-- `draw([old, new])` at draw number `n` (R294). -/
def drawLatch {w : Nat} (n : Nat) (old new : BitVec w) : BitVec w := if Config.drawTakesNew n then new else old

/-- PPI_A_RD (R295). -/
def execPpiARd (_port : Addr) (s : State) : Host.Outcome State Fault Refusal :=
  stimulus s fun s =>
    if s.ppi.dirA = .IN then giveByte (psgBusRead s).2 (.ok (psgBusRead s).1)
    else giveByte s (.ok s.ppi.latchA)

/-- PPI_A_WR (R296). -/
def execPpiAWr (_port : Addr) (d : Byte) (s : State) : Host.Outcome State Fault Refusal :=
  stimulus s fun s =>
    if s.ppi.dirA = .OUT then psgDataBusWrite (s.setPpi { s.ppi with latchA := d }) d
    else .running (s.setPpi { s.ppi with latchA := drawLatch s.draws s.ppi.latchA d }).drawn

/-- PPI_B_RD (R297). -/
def execPpiBRd (_port : Addr) (s : State) : Host.Outcome State Fault Refusal :=
  stimulus s fun s =>
    if s.ppi.dirB = .IN then giveByte s (.ok (portBStatus s.params s.sync.inV))
    else giveByte s (.ok s.ppi.latchB)

/-- PPI_B_WR (R298). -/
def execPpiBWr (_port : Addr) (d : Byte) (s : State) : Host.Outcome State Fault Refusal :=
  stimulus s fun s =>
    if s.ppi.dirB = .OUT then .running (s.setPpi { s.ppi with latchB := d })
    else .running (s.setPpi { s.ppi with latchB := drawLatch s.draws s.ppi.latchB d }).drawn

/-- A nibble of a port C read: the latch's in output mode, drawn in input mode (R299). -/
def readHalf (dir : Dir) (nibble : BitVec 4) (s : State) : BitVec 4 × State :=
  if dir = .OUT then (nibble, s) else (Config.drawNibble s.draws, s.drawn)

/-- PPI_C_RD (R299). -/
def execPpiCRd (_port : Addr) (s : State) : Host.Outcome State Fault Refusal :=
  stimulus s fun s =>
    let hi := readHalf s.ppi.dirCu (highNibble s.ppi.latchC) s
    let lo := readHalf s.ppi.dirCl (lowNibble s.ppi.latchC) hi.2
    giveByte lo.2 (.ok (fromNibbles hi.1 lo.1))

/-- A nibble of a port C write: the new one in output mode, either in input mode (R294, R300). -/
def writeHalf (dir : Dir) (old new : BitVec 4) (s : State) : BitVec 4 × State :=
  if dir = .OUT then (new, s) else (drawLatch s.draws old new, s.drawn)

/-- PPI_C_WR (R300). -/
def execPpiCWr (_port : Addr) (d : Byte) (s : State) : Host.Outcome State Fault Refusal :=
  stimulus s fun s =>
    let hi := writeHalf s.ppi.dirCu (highNibble s.ppi.latchC) (highNibble d) s
    let lo := writeHalf s.ppi.dirCl (lowNibble s.ppi.latchC) (lowNibble d) hi.2
    let s := lo.2.setPpi { lo.2.ppi with latchC := fromNibbles hi.1 lo.1 }
    portCSideEffectsIfOut s

/-- PPI_CTRL_MODE (R303): refused for a non-zero mode field, before any state changes (R444). -/
def execPpiCtrlMode (_port : Addr) (d : Byte) (s : State) : Host.Outcome State Fault Refusal :=
  stimulus s fun s =>
    if groupAMode d ≠ 0 ∨ groupBMode d ≠ 0 then .running (s.refuse .ppiMode)
    else .running (s.setPpi { s.ppi with
      modeA := groupAMode d
      modeB := groupBMode d
      dirA := dirOfBit (d.getLsbD 4)
      dirCu := dirOfBit (d.getLsbD 3)
      dirB := dirOfBit (d.getLsbD 1)
      dirCl := dirOfBit (d.getLsbD 0)
      latchA := 0
      latchB := 0
      latchC := 0 })

/-- PPI_CTRL_BSR (R304). -/
def execPpiCtrlBsr (_port : Addr) (d : Byte) (s : State) : Host.Outcome State Fault Refusal :=
  stimulus s fun s =>
    portCSideEffectsIfOut (s.setPpi { s.ppi with latchC := setBit s.ppi.latchC (bsrIndex d) (d.getLsbD 0) })

/-- PPI_CTRL_RD (R305). -/
def execPpiCtrlRd (_port : Addr) (s : State) : Host.Outcome State Fault Refusal :=
  stimulus s giveDrawnByte

end Sys2Proof.Machine
end

