-- ==== Sys2Proof/Machine/SoundGen.lean ====
section
/-! DEFINITION. SoundChip generators: `onClock`, noise, tone, mixing, envelope, samples (45_soundchip_generators.md
R370 to R393). -/

namespace Sys2Proof.Machine

/-- The next value of the noise register (R375). The Galois constant has 18 bits and is XORed in before the shift. The
map `other` is `Config.lfsrOther` with 0 replaced by 1, so that it ranges over exactly the maps that keep a non-zero
value non-zero (log 15). -/
def lfsrNext (form : LfsrForm) (rng : BitVec 17) : BitVec 17 :=
  match form with
  | .galois c =>
    let wide : BitVec 18 := rng.setWidth 18
    ((if rng.getLsbD 0 then wide ^^^ c else wide) >>> 1).setWidth 17
  | .other => if Config.lfsrOther rng = 0 then 1 else Config.lfsrOther rng

/-- `lfsrStep()` (R375): the toggle is decided before the shift. -/
def SoundChip.lfsrStep (c : SoundChip) (q : Params) : SoundChip :=
  { c with nout := if togglesNoise c.rng then !c.nout else c.nout, rng := lfsrNext q.lfsrForm c.rng }

/-- `updateNoise()` (R373, R374). -/
def SoundChip.updateNoise (c : SoundChip) (q : Params) : SoundChip :=
  if c.nperiod ≤ c.ncount + 1 then { c with ncount := 0 }.lfsrStep q else { c with ncount := c.ncount + 1 }

/-- The tone part of `updateChannel` (R376). -/
def Channel.advance (ch : Channel) : Channel :=
  if ch.period ≤ ch.tcount + 1 then { ch with tcount := 0, pol := !ch.pol } else { ch with tcount := ch.tcount + 1 }

/-- The level a channel sounds at (R378). -/
def Channel.level (ch : Channel) (elevel : BitVec 4) : BitVec 4 := if ch.envF then elevel else ch.vol

/-- VOLUME_TABLE at a level (R379). -/
def volumeOf (q : Params) (level : BitVec 4) : Int := (q.volumeTable[level.toNat]'level.isLt : Nat)

/-- The mix part of `updateChannel` (R376). -/
def Channel.mix (ch : Channel) (q : Params) (nout : Bool) (elevel : BitVec 4) : Channel :=
  let v := volumeOf q (ch.level elevel)
  { ch with acc := if gate ch.pol ch.toneEn nout ch.noiseEn then ch.acc + v else ch.acc - v }

/-- `updateChannel(c)` (R376). -/
def Channel.update (ch : Channel) (q : Params) (nout : Bool) (elevel : BitVec 4) : Channel :=
  ch.advance.mix q nout elevel

/-- The three channels, in the order A, B, C (R371). -/
def SoundChip.updateChannels (c : SoundChip) (q : Params) : SoundChip :=
  { c with
    chA := c.chA.update q c.nout c.elevel
    chB := c.chB.update q c.nout c.elevel
    chC := c.chC.update q c.nout c.elevel }

/-- The position after `pos` in a shape: the next one, or at the end the last one (hold) or 0 (R386). -/
def nextPos (q : Params) (shape : BitVec 4) (hold : Bool) (pos : Nat) : Nat :=
  if envLength q shape ≤ pos + 1 then (if hold then envLength q shape - 1 else 0) else pos + 1

/-- `updateEnvelope()` (R386). -/
def SoundChip.updateEnvelope (c : SoundChip) (q : Params) : SoundChip :=
  if c.eperiod ≤ c.ecount + 1 then
    let pos := nextPos q c.shape c.hold c.pos
    { c with ecount := 0, pos := pos, elevel := envLevel q c.shape pos }
  else { c with ecount := c.ecount + 1 }

/-- The tick: `stick <- (stick + 1) mod 16` (R371). -/
def SoundChip.tick (c : SoundChip) : SoundChip := { c with stick := (c.stick + 1) % 16 }

/-- A tone update: noise, channels, then the envelope on every second one (R371, R372), and the sample count. -/
def SoundChip.toneUpdate (c : SoundChip) (q : Params) : SoundChip :=
  let c := (c.updateNoise q).updateChannels q
  let c := if c.stick = 0 then c.updateEnvelope q else c
  { c with scount := c.scount + 1 }

/-- The left sum, channels C and B (R390). -/
def SoundChip.left (c : SoundChip) : Int := c.chC.acc + c.chB.acc

/-- The right sum, channels A and B (R390). -/
def SoundChip.right (c : SoundChip) : Int := c.chA.acc + c.chB.acc

/-- The sample of the present accumulators (R390, R392). -/
def SoundChip.sample (c : SoundChip) : Sample :=
  { left := Config.sampleConvert c.left, right := Config.sampleConvert c.right }

/-- The accumulators cleared (R390). -/
def SoundChip.clearAcc (c : SoundChip) : SoundChip :=
  { c with chA := { c.chA with acc := 0 }, chB := { c.chB with acc := 0 }, chC := { c.chC with acc := 0 } }

/-- `produceSample()` (R390); a sample into a full buffer is an overrun (R393). -/
def produceSample (s : State) : Flow :=
  if s.psg.obuf.length < s.params.bufferCapacity then
    let smp := s.psg.sample
    .running ((s.emit (.sample smp.left smp.right)).setPsg
      { s.psg.clearAcc with obuf := s.psg.obuf ++ [smp] })
  else raiseAndEnd s (.overrun .sampleBuffer)

/-- `SoundChip.onClock()` (R371). -/
def soundOnClock (s : State) : Flow :=
  let s := s.setPsg s.psg.tick
  if s.psg.stick % 8 = 0 then
    let s := s.setPsg (s.psg.toneUpdate s.params)
    if s.psg.scount = s.params.sampleDecimation then
      (produceSample s).andThen fun s => .running (s.setPsg { s.psg with scount := 0 })
    else .running s
  else .running s

end Sys2Proof.Machine
end

