-- ==== Sys2Proof/Machine/HostOps.lean ====
section
/-! DEFINITION. CLOCK and INTACK (40_io_dispatch.md R186, R187) and the host operations (46_host_ops.md R410 to R418)
with the chips' resets (70_reset_and_hazards.md R481 to R485). -/

namespace Sys2Proof.Machine

/-- CLOCK: SyncTimer, then SoundChip (R186). -/
def execClock (s : State) : Host.Outcome State Fault Refusal :=
  stimulus s fun s => (syncOnClock s).andThen soundOnClock

/-- INTACK: the palette's bit-5 clear, then `irq` (R187). -/
def execIntack (s : State) : Host.Outcome State Fault Refusal :=
  stimulus s fun s => .running ((palOnAck s).setIrq false)

/-! The chips' resets. -/

/-- SoundChip reset (R481). -/
def resetSound (s : State) : State := s.setPsg (.reset (envLevel s.params 0 0))

/-- SyncTimer reset: the registers and `crtcSel` are drawn (R482). -/
def resetSync (s : State) : State :=
  let t : SyncTimer :=
    { regs := Vector.ofFn fun i => Config.drawCrtcReg s.draws i &&& s.params.crtcMask[i]
      crtcSel := Config.drawCrtcSel s.draws
      hw := 0, vw := 0, col := 0, line := 0, row := 0, hcount := 0, vcount := 0, inH := false, inV := false }
  s.setSync (t.withWidths s.params.crtcIndex.sw)

/-- Palette chip reset: pens, `selPen` and `mode` are drawn; the request line is cleared (R483). -/
def resetPalette (s : State) : State :=
  (s.setPal
    { pens := Vector.ofFn fun i => Config.drawPen s.draws i
      selPen := Config.drawSelPen s.draws
      mode := Config.drawMode s.draws
      lowerRomEn := true, upperRomEn := true, icount := 0, vdelay := 0 }).setIrq false

/-- PPI reset (R484). -/
def resetPpi (s : State) : State := s.setPpi .reset

/-- Memory reset: every RAM byte is drawn, the ROM table stays (R485). -/
def resetMemory (s : State) : State :=
  s.setMem { s.mem with bankCfg := 0, upperRomSel := 0, ram := [], ramEpoch := s.draws }

/-- The register components whose reset value is unknown (R490). -/
def unknownAtReset : List Component :=
  (List.finRange 18).map .crtcReg ++ [.crtcSel] ++ (List.finRange 17).map .pen ++ [.selPen, .mode]

/-- Under RESET_UNKNOWN = fault those components are unwritten after RESET (R490). -/
def resetWritten (s : State) : State :=
  s.setUnwritten (if s.params.resetUnknown = .fault then unknownAtReset else [])

/-- The chips' resets in the documented order (R410, R486), one draw number for all their draws. -/
def resetAll (s : State) : State :=
  (resetWritten (resetMemory (resetPpi (resetPalette (resetSync (resetSound s)))))).drawn

/-- RESET (R410). -/
def execReset (s : State) : Host.Outcome State Fault Refusal :=
  stimulus s fun s => .running (resetAll s)

/-! Restore and query. -/

/-- One conjunct of the bounds of SET_TIMING: read the component, then compare (R412, R490, log 7). -/
def within (c : Component) (ok : State → Bool) (s : State) (k : State → Flow) : Flow :=
  reading c s fun s => if ok s then k s else raiseAndEnd s (.contract .setTimingBounds)

/-- SET_TIMING (R412): the bounds in the rule's order, then the record. -/
def execSetTiming (t : TimingRecord) (s : State) : Host.Outcome State Fault Refusal :=
  stimulus s fun s =>
    within (.crtcReg s.params.crtcIndex.ht) (fun s => decide (t.col ≤ s.ht)) s fun s =>
    within (.crtcReg s.params.crtcIndex.mra) (fun s => decide (t.line ≤ s.mra)) s fun s =>
    within (.crtcReg s.params.crtcIndex.vt) (fun s => decide (t.row ≤ s.vt)) s fun s =>
    within .hw (fun s => decide (t.hcount ≤ s.sync.hw)) s fun s =>
    within .vw (fun s => decide (t.vcount ≤ s.sync.vw)) s fun s =>
      if t.inH = decide (0 < t.hcount) ∧ t.inV = decide (0 < t.vcount) then
        .running (s.setSync { s.sync with
          col := t.col, line := t.line, row := t.row
          hcount := t.hcount, vcount := t.vcount, inH := t.inH, inV := t.inV })
      else raiseAndEnd s (.contract .setTimingBounds)

/-- The bounds of RESTORE_IRQ_COUNTERS (R413). -/
def irqCountersOk (t : IrqRecord) : Bool :=
  decide (t.vdelay ≤ 2) && decide (t.icount ≤ 255) && (decide (0 < t.vdelay) || decide (t.icount ≤ 51))

/-- RESTORE_IRQ_COUNTERS (R413). -/
def execRestoreIrqCounters (t : IrqRecord) (s : State) : Host.Outcome State Fault Refusal :=
  stimulus s fun s =>
    if irqCountersOk t then .running (s.setPal { s.pal with icount := t.icount, vdelay := t.vdelay })
    else raiseAndEnd s (.contract .irqCounterBounds)

/-- PSG_HOST_SELECT (R414). -/
def execPsgHostSelect (r : Byte) (s : State) : Host.Outcome State Fault Refusal :=
  stimulus s fun s => psgSelect s r

/-- PSG_HOST_WRITE (R415). -/
def execPsgHostWrite (v : Byte) (s : State) : Host.Outcome State Fault Refusal :=
  stimulus s fun s => .running (psgWriteSelected s v)

/-- SET_IRQ_LINE (R416). -/
def execSetIrqLine (b : Bool) (s : State) : Host.Outcome State Fault Refusal :=
  stimulus s fun s => .running (if b then requestIrq s else cancelIrq s)

/-- QUERY_VSYNC (R417). -/
def execQueryVsync (s : State) : Host.Outcome State Fault Refusal :=
  stimulus s fun s => .running (s.give (.flag s.sync.inV))

/-- AUDIO_FLUSH (R418): the sink's answer is drawn. -/
def execAudioFlush (s : State) : Host.Outcome State Fault Refusal :=
  stimulus s fun s =>
    if Config.sinkAccept s.draws then
      .running ((s.emit (.handoff s.psg.obuf.length)).setPsg { s.psg with obuf := [] }).drawn
    else .running s.drawn

end Sys2Proof.Machine
end

