-- ==== Sys2Proof/Machine/Dispatch.lean ====
section
/-! DEFINITION. One arm per stimulus (30_encoding.md R141): each calls the meaning of its own. -/

namespace Sys2Proof.Machine

def exec (i : Instr) (s : State) : Host.Outcome State Fault Refusal :=
  match i with
  | .palPen port d => Sys2Proof.Machine.execPalPen port d s
  | .palColour port d => Sys2Proof.Machine.execPalColour port d s
  | .palModeRom port d => Sys2Proof.Machine.execPalModeRom port d s
  | .palBank port d => Sys2Proof.Machine.execPalBank port d s
  | .ramcfgWr port d => Sys2Proof.Machine.execRamcfgWr port d s
  | .crtcSelect port d => Sys2Proof.Machine.execCrtcSelect port d s
  | .crtcWrite port d => Sys2Proof.Machine.execCrtcWrite port d s
  | .crtcWrFn2 port d => Sys2Proof.Machine.execCrtcWrFn2 port d s
  | .crtcWrFn3 port d => Sys2Proof.Machine.execCrtcWrFn3 port d s
  | .romselWr port d => Sys2Proof.Machine.execRomselWr port d s
  | .printerWr port d => Sys2Proof.Machine.execPrinterWr port d s
  | .ppiAWr port d => Sys2Proof.Machine.execPpiAWr port d s
  | .ppiBWr port d => Sys2Proof.Machine.execPpiBWr port d s
  | .ppiCWr port d => Sys2Proof.Machine.execPpiCWr port d s
  | .ppiCtrlMode port d => Sys2Proof.Machine.execPpiCtrlMode port d s
  | .ppiCtrlBsr port d => Sys2Proof.Machine.execPpiCtrlBsr port d s
  | .expWr port d => Sys2Proof.Machine.execExpWr port d s
  | .unknownWr port d => Sys2Proof.Machine.execUnknownWr port d s
  | .palRd port => Sys2Proof.Machine.execPalRd port s
  | .ramcfgRd port => Sys2Proof.Machine.execRamcfgRd port s
  | .crtcRdFn0 port => Sys2Proof.Machine.execCrtcRdFn0 port s
  | .crtcRdFn1 port => Sys2Proof.Machine.execCrtcRdFn1 port s
  | .crtcStatusRd port => Sys2Proof.Machine.execCrtcStatusRd port s
  | .crtcRead port => Sys2Proof.Machine.execCrtcRead port s
  | .romselRd port => Sys2Proof.Machine.execRomselRd port s
  | .printerRd port => Sys2Proof.Machine.execPrinterRd port s
  | .ppiARd port => Sys2Proof.Machine.execPpiARd port s
  | .ppiBRd port => Sys2Proof.Machine.execPpiBRd port s
  | .ppiCRd port => Sys2Proof.Machine.execPpiCRd port s
  | .ppiCtrlRd port => Sys2Proof.Machine.execPpiCtrlRd port s
  | .expRd port => Sys2Proof.Machine.execExpRd port s
  | .unknownRd port => Sys2Proof.Machine.execUnknownRd port s
  | .memRead addr => Sys2Proof.Machine.execMemRead addr s
  | .memWrite addr v => Sys2Proof.Machine.execMemWrite addr v s
  | .clock => Sys2Proof.Machine.execClock s
  | .intack => Sys2Proof.Machine.execIntack s
  | .reset => Sys2Proof.Machine.execReset s
  | .setTiming t => Sys2Proof.Machine.execSetTiming t s
  | .restoreIrqCounters t => Sys2Proof.Machine.execRestoreIrqCounters t s
  | .psgHostSelect r => Sys2Proof.Machine.execPsgHostSelect r s
  | .psgHostWrite v => Sys2Proof.Machine.execPsgHostWrite v s
  | .setIrqLine b => Sys2Proof.Machine.execSetIrqLine b s
  | .queryVsync => Sys2Proof.Machine.execQueryVsync s
  | .audioFlush => Sys2Proof.Machine.execAudioFlush s

end Sys2Proof.Machine
end

