-- ==== Sys2Proof/WellFormed.lean ====
section
/-! DEFINITION. Which terms of `Instr` stand for a stimulus word: the port selects the constructor's device and, where
the device has functions, its function; the data byte names the constructor's palette function or PPI control kind
(30_encoding.md R133 to R138, R141). The function codes are parameters, so the check takes them. -/

namespace Sys2Proof

/-- The port selects SyncTimer function `f` (R135). -/
def onCrtc (q : Params) (f : CrtcFn) (p : Addr) : Bool := (device p == .crtc) && (q.crtcFnOf p == f)

/-- The port selects PPI function `f` (R135). -/
def onPpi (q : Params) (f : PpiFn) (p : Addr) : Bool := (device p == .ppi) && (q.ppiFnOf p == f)

/-- The port selects the palette chip and the byte its function `f` (R136). -/
def onPal (q : Params) (f : PalFn) (p : Addr) (d : Byte) : Bool := (device p == .pal) && (q.palFnOf d == f)

/-- The check: a well-formed instruction is the reading of exactly one stimulus word (R141). -/
def Instr.wellFormed (q : Params) : Instr → Bool
  | .palPen p d => onPal q .selectPen p d
  | .palColour p d => onPal q .setColour p d
  | .palModeRom p d => onPal q .modeRom p d
  | .palBank p d => onPal q .bank p d
  | .ramcfgWr p _ => device p == .ramcfg
  | .crtcSelect p _ => onCrtc q .select p
  | .crtcWrite p _ => onCrtc q .write p
  | .crtcWrFn2 p _ => onCrtc q .status p
  | .crtcWrFn3 p _ => onCrtc q .read p
  | .romselWr p _ => device p == .romsel
  | .printerWr p _ => device p == .printer
  | .ppiAWr p _ => onPpi q .portA p
  | .ppiBWr p _ => onPpi q .portB p
  | .ppiCWr p _ => onPpi q .portC p
  | .ppiCtrlMode p d => onPpi q .control p && isModeSet d
  | .ppiCtrlBsr p d => onPpi q .control p && !isModeSet d
  | .expWr p _ => device p == .expansion
  | .unknownWr p _ => device p == .unknown
  | .palRd p => device p == .pal
  | .ramcfgRd p => device p == .ramcfg
  | .crtcRdFn0 p => onCrtc q .select p
  | .crtcRdFn1 p => onCrtc q .write p
  | .crtcStatusRd p => onCrtc q .status p
  | .crtcRead p => onCrtc q .read p
  | .romselRd p => device p == .romsel
  | .printerRd p => device p == .printer
  | .ppiARd p => onPpi q .portA p
  | .ppiBRd p => onPpi q .portB p
  | .ppiCRd p => onPpi q .portC p
  | .ppiCtrlRd p => onPpi q .control p
  | .expRd p => device p == .expansion
  | .unknownRd p => device p == .unknown
  | .memRead _ => true
  | .memWrite _ _ => true
  | .clock => true
  | .intack => true
  | .reset => true
  | .setTiming _ => true
  | .restoreIrqCounters _ => true
  | .psgHostSelect _ => true
  | .psgHostWrite _ => true
  | .setIrqLine _ => true
  | .queryVsync => true
  | .audioFlush => true

end Sys2Proof
end

