-- ==== Sys2Proof/Decode.lean ====
section
/-! DEFINITION. Reading a stimulus word (30_encoding.md), total and rejecting by name, then the encoder and the
opcode table itself (R141) as data. The decoder follows the fields of R130 and the chains of R133 to R138 under the
parameters CRTC_FN, PPI_FN and PAL_FN; that it agrees with the mask/match rows of R141 in the reference profile is a
statement, not its definition. -/

namespace Sys2Proof

/-! The fields of a word (R130). -/

/-- W[26:25], the class. -/
def wordClass (w : StimWord) : BitVec 2 := w.extractLsb' 25 2

/-- W[24], true for a write. -/
def wordDir (w : StimWord) : Bool := w.getLsbD 24

/-- W[23:8], the port or memory address. -/
def wordAddr (w : StimWord) : Addr := w.extractLsb' 8 16

/-- W[7:0], the data or argument byte. -/
def wordData (w : StimWord) : Byte := w.extractLsb' 0 8

/-- W[11:8], the kind of a class-10 stimulus (R131). -/
def wordKind (w : StimWord) : BitVec 4 := w.extractLsb' 8 4

/-- W[23:12], which class 10 requires to be 0. -/
def wordReserved (w : StimWord) : BitVec 12 := w.extractLsb' 12 12

/-- Why a word is illegal (R143); every case is refused with reason ILLEGAL_STIMULUS. -/
inductive IllegalWord where
  /-- Class 11. -/
  | reservedClass
  /-- Class 10 with a kind 10..15. -/
  | reservedKind
  /-- Class 10 with W[24:12] not zero. -/
  | reservedBits
  /-- Class 10 with an argument byte not zero where the row's mask covers it. -/
  | argumentByte
  /-- A read with a data byte not zero. -/
  | readData
deriving DecidableEq, Repr

/-- An IO write (R170): the device, then its function. -/
def decodeIoWrite (q : Params) (p : Addr) (d : Byte) : Instr :=
  match device p with
  | .pal =>
    match q.palFnOf d with
    | .selectPen => .palPen p d
    | .setColour => .palColour p d
    | .modeRom => .palModeRom p d
    | .bank => .palBank p d
  | .ramcfg => .ramcfgWr p d
  | .crtc =>
    match q.crtcFnOf p with
    | .select => .crtcSelect p d
    | .write => .crtcWrite p d
    | .status => .crtcWrFn2 p d
    | .read => .crtcWrFn3 p d
  | .romsel => .romselWr p d
  | .printer => .printerWr p d
  | .ppi =>
    match q.ppiFnOf p with
    | .portA => .ppiAWr p d
    | .portB => .ppiBWr p d
    | .portC => .ppiCWr p d
    | .control => if isModeSet d then .ppiCtrlMode p d else .ppiCtrlBsr p d
  | .expansion => .expWr p d
  | .unknown => .unknownWr p d

/-- An IO read (R171). -/
def decodeIoRead (q : Params) (p : Addr) : Instr :=
  match device p with
  | .pal => .palRd p
  | .ramcfg => .ramcfgRd p
  | .crtc =>
    match q.crtcFnOf p with
    | .select => .crtcRdFn0 p
    | .write => .crtcRdFn1 p
    | .status => .crtcStatusRd p
    | .read => .crtcRead p
  | .romsel => .romselRd p
  | .printer => .printerRd p
  | .ppi =>
    match q.ppiFnOf p with
    | .portA => .ppiARd p
    | .portB => .ppiBRd p
    | .portC => .ppiCRd p
    | .control => .ppiCtrlRd p
  | .expansion => .expRd p
  | .unknown => .unknownRd p

/-- A kind whose argument byte must be 0 (R143). -/
def noArgument (d : Byte) (i : Instr) : Except IllegalWord Instr :=
  if d = 0 then .ok i else .error .argumentByte

/-- A class-10 stimulus by its kind (R131), its argument byte and the records issued beside the word (R132). -/
def decodeKind (kind : BitVec 4) (d : Byte) (st : Stimulus) : Except IllegalWord Instr :=
  if kind = 0 then noArgument d .clock
  else if kind = 1 then noArgument d .intack
  else if kind = 2 then noArgument d .reset
  else if kind = 3 then noArgument d (.setTiming st.timing)
  else if kind = 4 then noArgument d (.restoreIrqCounters st.irqCounters)
  else if kind = 5 then .ok (.psgHostSelect d)
  else if kind = 6 then .ok (.psgHostWrite d)
  else if kind = 7 then (if d.extractLsb' 1 7 = 0 then .ok (.setIrqLine (d.getLsbD 0)) else .error .argumentByte)
  else if kind = 8 then noArgument d .queryVsync
  else if kind = 9 then noArgument d .audioFlush
  else .error .reservedKind

/-- The decoder: total, every illegal word rejected by name (R142, R143). -/
def decode (q : Params) (st : Stimulus) : Except IllegalWord Instr :=
  let w := st.word
  if wordClass w = 0 then
    if wordDir w then .ok (decodeIoWrite q (wordAddr w) (wordData w))
    else if wordData w = 0 then .ok (decodeIoRead q (wordAddr w))
    else .error .readData
  else if wordClass w = 1 then
    if wordDir w then .ok (.memWrite (wordAddr w) (wordData w))
    else if wordData w = 0 then .ok (.memRead (wordAddr w))
    else .error .readData
  else if wordClass w = 2 then
    if wordDir w ∨ wordReserved w ≠ 0 then .error .reservedBits
    else decodeKind (wordKind w) (wordData w) st
  else .error .reservedClass

/-! The encoder. -/

/-- The word of a bus access: class, direction, address, data (R130). -/
def busWord (cls : BitVec 2) (isWrite : Bool) (a : Addr) (d : Byte) : StimWord :=
  cls ++ BitVec.ofBool isWrite ++ a ++ d

/-- The word of a class-10 stimulus: kind and argument byte (R131). -/
def kindWord (kind : BitVec 4) (d : Byte) : StimWord :=
  (2 : BitVec 2) ++ (0 : BitVec 13) ++ kind ++ d

/-- An IO write. -/
def ioWriteWord (p : Addr) (d : Byte) : StimWord := busWord 0 true p d

/-- An IO read, its data byte 0. -/
def ioReadWord (p : Addr) : StimWord := busWord 0 false p 0

/-- The word of an instruction (R130, R131, R146). -/
def encodeWord : Instr → StimWord
  | .palPen p d => ioWriteWord p d
  | .palColour p d => ioWriteWord p d
  | .palModeRom p d => ioWriteWord p d
  | .palBank p d => ioWriteWord p d
  | .ramcfgWr p d => ioWriteWord p d
  | .crtcSelect p d => ioWriteWord p d
  | .crtcWrite p d => ioWriteWord p d
  | .crtcWrFn2 p d => ioWriteWord p d
  | .crtcWrFn3 p d => ioWriteWord p d
  | .romselWr p d => ioWriteWord p d
  | .printerWr p d => ioWriteWord p d
  | .ppiAWr p d => ioWriteWord p d
  | .ppiBWr p d => ioWriteWord p d
  | .ppiCWr p d => ioWriteWord p d
  | .ppiCtrlMode p d => ioWriteWord p d
  | .ppiCtrlBsr p d => ioWriteWord p d
  | .expWr p d => ioWriteWord p d
  | .unknownWr p d => ioWriteWord p d
  | .palRd p => ioReadWord p
  | .ramcfgRd p => ioReadWord p
  | .crtcRdFn0 p => ioReadWord p
  | .crtcRdFn1 p => ioReadWord p
  | .crtcStatusRd p => ioReadWord p
  | .crtcRead p => ioReadWord p
  | .romselRd p => ioReadWord p
  | .printerRd p => ioReadWord p
  | .ppiARd p => ioReadWord p
  | .ppiBRd p => ioReadWord p
  | .ppiCRd p => ioReadWord p
  | .ppiCtrlRd p => ioReadWord p
  | .expRd p => ioReadWord p
  | .unknownRd p => ioReadWord p
  | .memRead a => busWord 1 false a 0
  | .memWrite a v => busWord 1 true a v
  | .clock => kindWord 0 0
  | .intack => kindWord 1 0
  | .reset => kindWord 2 0
  | .setTiming _ => kindWord 3 0
  | .restoreIrqCounters _ => kindWord 4 0
  | .psgHostSelect r => kindWord 5 r
  | .psgHostWrite v => kindWord 6 v
  | .setIrqLine b => kindWord 7 (if b then 1 else 0)
  | .queryVsync => kindWord 8 0
  | .audioFlush => kindWord 9 0

/-- The stimulus of an instruction: its word, and its record where it has one (R132). -/
def encode : Instr → Stimulus
  | .setTiming t => { Stimulus.ofWord (encodeWord (.setTiming t)) with timing := t }
  | .restoreIrqCounters t => { Stimulus.ofWord (encodeWord (.restoreIrqCounters t)) with irqCounters := t }
  | i => Stimulus.ofWord (encodeWord i)

/-! The opcode table (R141). -/

/-- A row: a word `w` is the row's stimulus when `w &&& care = pattern`. -/
structure Row where
  care : StimWord
  pattern : StimWord
deriving DecidableEq, Repr

/-- The word matches the row (R141). -/
def Row.accepts (r : Row) (w : StimWord) : Bool := w &&& r.care == r.pattern

/-- The rows of IO writes. -/
def ioWriteRows : List (String × Row) :=
  [
   ("PAL_PEN", { care := 0x7C000C0, pattern := 0x1400000 }),
   ("PAL_COLOUR", { care := 0x7C000C0, pattern := 0x1400040 }),
   ("PAL_MODE_ROM", { care := 0x7C000C0, pattern := 0x1400080 }),
   ("PAL_BANK", { care := 0x7C000C0, pattern := 0x14000C0 }),
   ("RAMCFG_WR", { care := 0x7C00000, pattern := 0x1000000 }),
   ("CRTC_SELECT", { care := 0x7C30000, pattern := 0x1800000 }),
   ("CRTC_WRITE", { care := 0x7C30000, pattern := 0x1810000 }),
   ("CRTC_WR_FN2", { care := 0x7C30000, pattern := 0x1820000 }),
   ("CRTC_WR_FN3", { care := 0x7C30000, pattern := 0x1830000 }),
   ("ROMSEL_WR", { care := 0x7E00000, pattern := 0x1C00000 }),
   ("PRINTER_WR", { care := 0x7F00000, pattern := 0x1E00000 }),
   ("PPI_A_WR", { care := 0x7FB0000, pattern := 0x1F00000 }),
   ("PPI_B_WR", { care := 0x7FB0000, pattern := 0x1F10000 }),
   ("PPI_C_WR", { care := 0x7FB0000, pattern := 0x1F20000 }),
   ("PPI_CTRL_MODE", { care := 0x7FB0080, pattern := 0x1F30080 }),
   ("PPI_CTRL_BSR", { care := 0x7FB0080, pattern := 0x1F30000 }),
   ("EXP_WR", { care := 0x7FC0000, pattern := 0x1F80000 }),
   ("UNKNOWN_WR", { care := 0x7FC0000, pattern := 0x1FC0000 })]

/-- The rows of IO reads. -/
def ioReadRows : List (String × Row) :=
  [
   ("PAL_RD", { care := 0x7C000FF, pattern := 0x0400000 }),
   ("RAMCFG_RD", { care := 0x7C000FF, pattern := 0x0000000 }),
   ("CRTC_RD_FN0", { care := 0x7C300FF, pattern := 0x0800000 }),
   ("CRTC_RD_FN1", { care := 0x7C300FF, pattern := 0x0810000 }),
   ("CRTC_STATUS_RD", { care := 0x7C300FF, pattern := 0x0820000 }),
   ("CRTC_READ", { care := 0x7C300FF, pattern := 0x0830000 }),
   ("ROMSEL_RD", { care := 0x7E000FF, pattern := 0x0C00000 }),
   ("PRINTER_RD", { care := 0x7F000FF, pattern := 0x0E00000 }),
   ("PPI_A_RD", { care := 0x7FB00FF, pattern := 0x0F00000 }),
   ("PPI_B_RD", { care := 0x7FB00FF, pattern := 0x0F10000 }),
   ("PPI_C_RD", { care := 0x7FB00FF, pattern := 0x0F20000 }),
   ("PPI_CTRL_RD", { care := 0x7FB00FF, pattern := 0x0F30000 }),
   ("EXP_RD", { care := 0x7FC00FF, pattern := 0x0F80000 }),
   ("UNKNOWN_RD", { care := 0x7FC00FF, pattern := 0x0FC0000 })]

/-- The rows of memory accesses and of the non-bus stimuli. -/
def otherRows : List (String × Row) :=
  [
   ("MEM_READ", { care := 0x70000FF, pattern := 0x2000000 }),
   ("MEM_WRITE", { care := 0x7000000, pattern := 0x3000000 }),
   ("CLOCK", { care := 0x7FFFFFF, pattern := 0x4000000 }),
   ("INTACK", { care := 0x7FFFFFF, pattern := 0x4000100 }),
   ("RESET", { care := 0x7FFFFFF, pattern := 0x4000200 }),
   ("SET_TIMING", { care := 0x7FFFFFF, pattern := 0x4000300 }),
   ("RESTORE_IRQ_COUNTERS", { care := 0x7FFFFFF, pattern := 0x4000400 }),
   ("PSG_HOST_SELECT", { care := 0x7FFFF00, pattern := 0x4000500 }),
   ("PSG_HOST_WRITE", { care := 0x7FFFF00, pattern := 0x4000600 }),
   ("SET_IRQ_LINE", { care := 0x7FFFFFE, pattern := 0x4000700 }),
   ("QUERY_VSYNC", { care := 0x7FFFFFF, pattern := 0x4000800 }),
   ("AUDIO_FLUSH", { care := 0x7FFFFFF, pattern := 0x4000900 })]

/-- The table of R141: every mnemonic with its row. -/
def opcodeTable : List (String × Row) := ioWriteRows ++ ioReadRows ++ otherRows

/-- The row of an instruction (R141). -/
def Instr.row : Instr → Row
  | .palPen _ _ => { care := 0x7C000C0, pattern := 0x1400000 }
  | .palColour _ _ => { care := 0x7C000C0, pattern := 0x1400040 }
  | .palModeRom _ _ => { care := 0x7C000C0, pattern := 0x1400080 }
  | .palBank _ _ => { care := 0x7C000C0, pattern := 0x14000C0 }
  | .ramcfgWr _ _ => { care := 0x7C00000, pattern := 0x1000000 }
  | .crtcSelect _ _ => { care := 0x7C30000, pattern := 0x1800000 }
  | .crtcWrite _ _ => { care := 0x7C30000, pattern := 0x1810000 }
  | .crtcWrFn2 _ _ => { care := 0x7C30000, pattern := 0x1820000 }
  | .crtcWrFn3 _ _ => { care := 0x7C30000, pattern := 0x1830000 }
  | .romselWr _ _ => { care := 0x7E00000, pattern := 0x1C00000 }
  | .printerWr _ _ => { care := 0x7F00000, pattern := 0x1E00000 }
  | .ppiAWr _ _ => { care := 0x7FB0000, pattern := 0x1F00000 }
  | .ppiBWr _ _ => { care := 0x7FB0000, pattern := 0x1F10000 }
  | .ppiCWr _ _ => { care := 0x7FB0000, pattern := 0x1F20000 }
  | .ppiCtrlMode _ _ => { care := 0x7FB0080, pattern := 0x1F30080 }
  | .ppiCtrlBsr _ _ => { care := 0x7FB0080, pattern := 0x1F30000 }
  | .expWr _ _ => { care := 0x7FC0000, pattern := 0x1F80000 }
  | .unknownWr _ _ => { care := 0x7FC0000, pattern := 0x1FC0000 }
  | .palRd _ => { care := 0x7C000FF, pattern := 0x0400000 }
  | .ramcfgRd _ => { care := 0x7C000FF, pattern := 0x0000000 }
  | .crtcRdFn0 _ => { care := 0x7C300FF, pattern := 0x0800000 }
  | .crtcRdFn1 _ => { care := 0x7C300FF, pattern := 0x0810000 }
  | .crtcStatusRd _ => { care := 0x7C300FF, pattern := 0x0820000 }
  | .crtcRead _ => { care := 0x7C300FF, pattern := 0x0830000 }
  | .romselRd _ => { care := 0x7E000FF, pattern := 0x0C00000 }
  | .printerRd _ => { care := 0x7F000FF, pattern := 0x0E00000 }
  | .ppiARd _ => { care := 0x7FB00FF, pattern := 0x0F00000 }
  | .ppiBRd _ => { care := 0x7FB00FF, pattern := 0x0F10000 }
  | .ppiCRd _ => { care := 0x7FB00FF, pattern := 0x0F20000 }
  | .ppiCtrlRd _ => { care := 0x7FB00FF, pattern := 0x0F30000 }
  | .expRd _ => { care := 0x7FC00FF, pattern := 0x0F80000 }
  | .unknownRd _ => { care := 0x7FC00FF, pattern := 0x0FC0000 }
  | .memRead _ => { care := 0x70000FF, pattern := 0x2000000 }
  | .memWrite _ _ => { care := 0x7000000, pattern := 0x3000000 }
  | .clock => { care := 0x7FFFFFF, pattern := 0x4000000 }
  | .intack => { care := 0x7FFFFFF, pattern := 0x4000100 }
  | .reset => { care := 0x7FFFFFF, pattern := 0x4000200 }
  | .setTiming _ => { care := 0x7FFFFFF, pattern := 0x4000300 }
  | .restoreIrqCounters _ => { care := 0x7FFFFFF, pattern := 0x4000400 }
  | .psgHostSelect _ => { care := 0x7FFFF00, pattern := 0x4000500 }
  | .psgHostWrite _ => { care := 0x7FFFF00, pattern := 0x4000600 }
  | .setIrqLine _ => { care := 0x7FFFFFE, pattern := 0x4000700 }
  | .queryVsync => { care := 0x7FFFFFF, pattern := 0x4000800 }
  | .audioFlush => { care := 0x7FFFFFF, pattern := 0x4000900 }

/-- The mnemonic of an instruction's row (R141). -/
def Instr.mnemonic : Instr → String
  | .palPen _ _ => "PAL_PEN"
  | .palColour _ _ => "PAL_COLOUR"
  | .palModeRom _ _ => "PAL_MODE_ROM"
  | .palBank _ _ => "PAL_BANK"
  | .ramcfgWr _ _ => "RAMCFG_WR"
  | .crtcSelect _ _ => "CRTC_SELECT"
  | .crtcWrite _ _ => "CRTC_WRITE"
  | .crtcWrFn2 _ _ => "CRTC_WR_FN2"
  | .crtcWrFn3 _ _ => "CRTC_WR_FN3"
  | .romselWr _ _ => "ROMSEL_WR"
  | .printerWr _ _ => "PRINTER_WR"
  | .ppiAWr _ _ => "PPI_A_WR"
  | .ppiBWr _ _ => "PPI_B_WR"
  | .ppiCWr _ _ => "PPI_C_WR"
  | .ppiCtrlMode _ _ => "PPI_CTRL_MODE"
  | .ppiCtrlBsr _ _ => "PPI_CTRL_BSR"
  | .expWr _ _ => "EXP_WR"
  | .unknownWr _ _ => "UNKNOWN_WR"
  | .palRd _ => "PAL_RD"
  | .ramcfgRd _ => "RAMCFG_RD"
  | .crtcRdFn0 _ => "CRTC_RD_FN0"
  | .crtcRdFn1 _ => "CRTC_RD_FN1"
  | .crtcStatusRd _ => "CRTC_STATUS_RD"
  | .crtcRead _ => "CRTC_READ"
  | .romselRd _ => "ROMSEL_RD"
  | .printerRd _ => "PRINTER_RD"
  | .ppiARd _ => "PPI_A_RD"
  | .ppiBRd _ => "PPI_B_RD"
  | .ppiCRd _ => "PPI_C_RD"
  | .ppiCtrlRd _ => "PPI_CTRL_RD"
  | .expRd _ => "EXP_RD"
  | .unknownRd _ => "UNKNOWN_RD"
  | .memRead _ => "MEM_READ"
  | .memWrite _ _ => "MEM_WRITE"
  | .clock => "CLOCK"
  | .intack => "INTACK"
  | .reset => "RESET"
  | .setTiming _ => "SET_TIMING"
  | .restoreIrqCounters _ => "RESTORE_IRQ_COUNTERS"
  | .psgHostSelect _ => "PSG_HOST_SELECT"
  | .psgHostWrite _ => "PSG_HOST_WRITE"
  | .setIrqLine _ => "SET_IRQ_LINE"
  | .queryVsync => "QUERY_VSYNC"
  | .audioFlush => "AUDIO_FLUSH"

/-! The host's entry: a row's word. -/

/-- The instruction the decoder reads from a word numbered as spec/opcode_table.json numbers it, with records of zeros
and the reference function codes; a number of more than 27 bits is no stimulus word (R130, R145; log 22). -/
def decodeTableWord (_nbits w : Nat) : Option Instr :=
  if w < 2 ^ 27 then (decode Params.reference (Stimulus.ofWord (BitVec.ofNat 27 w))).toOption else none

end Sys2Proof
end

