-- ==== Sys2Proof/Machine/Fetch.lean ====
section
/-! DEFINITION. Taking the driver's next input (log 1): the block has no program counter (10_state.md R31); the driver
issues one stimulus at a time (R30), and `pending` holds those not yet applied. -/

namespace Sys2Proof.Machine

/-- What the next step applies. -/
inductive Fetched where
  /-- Nothing is pending: the block stands still (R461). -/
  | idle
  /-- A stimulus word that decodes, and the state with it taken from `pending`. -/
  | instr (i : Instr) (s : State)
  /-- A word that matches no row (R143), and the state with it taken from `pending`. -/
  | illegal (s : State)
  /-- A host memory call (R101), and the state with it taken from `pending`. -/
  | call (c : HostCall) (s : State)
deriving DecidableEq, Repr

/-- Take the first pending input and decode it under the run's parameters. -/
def fetch (s : State) : Fetched :=
  match s.pending with
  | [] => .idle
  | .stimulus st :: rest =>
    match decode s.params st with
    | .ok i => .instr i (s.setPending rest)
    | .error _ => .illegal (s.setPending rest)
  | .hostCall c :: rest => .call c (s.setPending rest)

/-- An illegal stimulus word: refused ILLEGAL_STIMULUS (R143, R444). -/
def execIllegal (s : State) : Host.Outcome State Fault Refusal :=
  stimulus s fun s => .running (s.refuse .illegalStimulus)

/-- `s` with a stimulus word placed where the next step takes its input, its records zero. A number of more than 27
bits is no stimulus word and places nothing (R130, log 22). -/
def placeWord (s : State) (w : Nat) : State :=
  if w < 2 ^ 27 then s.setPending (.stimulus (Stimulus.ofWord (BitVec.ofNat 27 w)) :: s.pending) else s

end Sys2Proof.Machine
end

