-- ==== Sys2Proof/Machine/Step.lean ====
section
/-! DEFINITION. One step: the driver's next input is taken from `pending` and applied; with none pending the block
stands still (60_exceptions.md R461; log 1). -/

namespace Sys2Proof.Machine

/-- One step of the block. -/
def step (s : State) : Host.Outcome State Fault Refusal :=
  match fetch s with
  | .idle => .next s
  | .instr i s' => exec i s'
  | .illegal s' => execIllegal s'
  | .call c s' => runHostCall c s'

/-- `s` with the stimulus word `w` placed as the next input (log 1, log 22). -/
def State.withFetchWord (s : State) (_nbits w : Nat) : State := placeWord s w

end Sys2Proof.Machine
end

