-- ==== Sys2Proof/Safety.lean ====
section
/-! DEFINITION. What counts as a safe run, and the invariants of the block in the terms the statements use.
60_exceptions.md R441: "every claim about a run carries 'no fault recorded' as a premise". -/

namespace Sys2Proof.Machine

/-- No fault is recorded (R441). -/
def State.faultFree (s : State) : Prop := s.faultMark = none

/-- No fault and no refusal is recorded (R441, R443). -/
def State.clean (s : State) : Prop := s.faultMark = none ∧ s.refusalMark = none

/-- Every component that a stimulus may read holds a value: always so under RESET_UNKNOWN = draw (R490). -/
def State.allWritten (s : State) : Prop := ∀ c, isUnwritten s c = false

/-- The derived pulse widths agree with R[SW] (R37). -/
def State.widthsAgree (s : State) : Prop :=
  s.sync.hw = width16 (lowNibble (s.crtc s.params.crtcIndex.sw)) ∧
  s.sync.vw = width16 (highNibble (s.crtc s.params.crtcIndex.sw))

/-- The sync flags agree with their countdowns (R41), which are at most 16 (R39). -/
def State.pulsesAgree (s : State) : Prop :=
  s.sync.inH = decide (0 < s.sync.hcount) ∧ s.sync.inV = decide (0 < s.sync.vcount) ∧
  s.sync.hcount ≤ 16 ∧ s.sync.vcount ≤ 16

/-- The interrupt counters' ranges (R48, R261): at most two hsyncs of delay, and `icount` at most 51 with none. -/
def State.irqCountersInRange (s : State) : Prop :=
  s.pal.vdelay ≤ 2 ∧ (s.pal.vdelay = 0 → s.pal.icount ≤ 51)

/-- The PPI's operation modes are 0 (R56). -/
def State.ppiModesZero (s : State) : Prop := s.ppi.modeA = 0 ∧ s.ppi.modeB = 0

/-- A channel's derived fields agree with its registers (R64, R65, R66). -/
def Channel.agrees (ch : Channel) (low high volume mixer : Byte) (k : Nat) : Prop :=
  ch.period = max1 (registerPair low high) ∧
  ch.toneEn = toneEnOf mixer k ∧ ch.noiseEn = noiseEnOf mixer k ∧
  ch.vol = lowNibble volume ∧ ch.envF = envFollowOf volume

/-- SoundChip's derived fields agree with its registers (R64 to R68). -/
def SoundChip.agrees (c : SoundChip) : Prop :=
  c.chA.agrees (c.reg 0) (c.reg 1) (c.reg 8) (c.reg 7) 0 ∧
  c.chB.agrees (c.reg 2) (c.reg 3) (c.reg 9) (c.reg 7) 1 ∧
  c.chC.agrees (c.reg 4) (c.reg 5) (c.reg 10) (c.reg 7) 2 ∧
  c.ioADirOut = (c.reg 7).getLsbD 6 ∧ c.ioBDirOut = (c.reg 7).getLsbD 7 ∧
  c.nperiod = max1 (c.reg 6 &&& 0x1F).toNat ∧
  c.eperiod = max1 (registerPair (c.reg 11) (c.reg 12)) ∧
  c.shape = lowNibble (c.reg 13) ∧ c.hold = holdOf c.shape

/-- The envelope's level is its shape's level at its position, a position of the shape (R68). -/
def SoundChip.envelopeAgrees (c : SoundChip) (q : Params) : Prop :=
  c.elevel = envLevel q c.shape c.pos ∧ c.pos < envLength q c.shape

/-- SoundChip's sequencing counters and its buffer are in range, its noise register is not 0 (R67, R69, R70, R375). -/
def SoundChip.inRange (c : SoundChip) (q : Params) : Prop :=
  c.stick < 16 ∧ c.scount < q.sampleDecimation ∧ c.obuf.length ≤ q.bufferCapacity ∧ c.rng ≠ 0

/-- The position counters are within the limits their registers set (R38). -/
def State.positionInRange (s : State) : Prop :=
  s.sync.col ≤ s.ht ∧ s.sync.line ≤ s.mra ∧ s.sync.row ≤ s.vt

/-- The component holds a value; always so under RESET_UNKNOWN = draw (R490, log 7). -/
abbrev State.holds (s : State) (c : Component) : Prop := isUnwritten s c = false

/-- A tick inside a scanline reaches HSP with no hsync pulse left running after its countdown (R215, R218). -/
abbrev State.hsyncStarts (s : State) : Prop :=
  s.sync.col + 1 = s.hsp ∧ ¬ (s.sync.inH = true ∧ 1 < s.sync.hcount)

/-- The scanline after an end of scanline (R215). -/
def State.nextLine (s : State) : Nat := if s.sync.line = s.mra then 0 else s.sync.line + 1

/-- The row after an end of scanline (R215). -/
def State.nextRow (s : State) : Nat :=
  if s.sync.line = s.mra then (if s.sync.row = s.vt then 0 else s.sync.row + 1) else s.sync.row

/-- An end of scanline compares the row against VSP: the test of R217 is due and no vsync pulse is left running. -/
abbrev State.vsyncTested (s : State) : Prop :=
  (s.params.vsyncCheck = .perScanline ∨ s.nextLine = 0) ∧ ¬ (s.sync.inV = true ∧ 1 < s.sync.vcount)

/-- Exactly when the SyncTimer's half of a CLOCK raises nothing: each register that this tick compares against or loads
holds a value (R490), and each counter that it advances is within its limit (R215, R216, R261). -/
def State.timingRuns (s : State) : Prop :=
  s.holds (.crtcReg s.params.crtcIndex.ht) ∧ s.sync.col ≤ s.ht ∧
  (s.sync.col < s.ht → s.holds (.crtcReg s.params.crtcIndex.hsp) ∧
    (s.hsyncStarts → s.holds .hw ∧ (s.pal.vdelay = 0 → s.pal.icount ≤ 51))) ∧
  (s.sync.col = s.ht → s.holds (.crtcReg s.params.crtcIndex.mra) ∧ s.sync.line ≤ s.mra ∧
    (s.sync.line = s.mra → s.holds (.crtcReg s.params.crtcIndex.vt) ∧ s.sync.row ≤ s.vt) ∧
    (s.vsyncTested → s.holds (.crtcReg s.params.crtcIndex.vsp) ∧ (s.nextRow = s.vsp → s.holds .vw)))

/-- What some CLOCK reads of the SyncTimer's registers holds a value (R215, R490). -/
def State.timingWritten (s : State) : Prop :=
  ∀ c ∈ [.crtcReg s.params.crtcIndex.ht, .crtcReg s.params.crtcIndex.hsp, .crtcReg s.params.crtcIndex.mra,
    .crtcReg s.params.crtcIndex.vt, .crtcReg s.params.crtcIndex.vsp, Component.hw, .vw], s.holds c

/-- No fault is recorded, the registers CLOCK reads are written and the counters are within their limits: a condition
that CLOCK keeps (R38, R261). -/
def State.timingReady (s : State) : Prop :=
  s.faultMark = none ∧ s.timingWritten ∧ s.positionInRange ∧ s.irqCountersInRange

/-- The output buffer can take one more sample (R393). -/
def State.bufferHasRoom (s : State) : Prop := s.psg.obuf.length < s.params.bufferCapacity

/-- The next CLOCK makes the tone update that completes SAMPLE_DECIMATION (R371). -/
abbrev State.sampleDue (s : State) : Prop :=
  (s.psg.stick + 1) % 16 % 8 = 0 ∧ s.psg.scount + 1 = s.params.sampleDecimation

/-- The next CLOCK emits no sample into a full buffer (R393). -/
def State.sampleFits (s : State) : Prop := s.sampleDue → s.bufferHasRoom

/-- Exactly when a CLOCK runs to its end: no fault is recorded and neither half raises one (R186, R441). -/
def State.clockRuns (s : State) : Prop := s.faultMark = none ∧ s.timingRuns ∧ s.sampleFits

/-- A read of the address is served by a ROM image, not by RAM (R94). -/
def State.overlaid (s : State) (a : Addr) : Prop :=
  (a.toNat < 0x4000 ∧ s.pal.lowerRomEn = true) ∨ (0xC000 ≤ a.toNat ∧ s.pal.upperRomEn = true)

/-- The SAMPLE events of a list of samples (R390). -/
def sampleEvents (l : List Sample) : List Event := l.map fun x => .sample x.left x.right

/-- The state after `n` CLOCK stimuli; stops at a step that gives no next state. -/
def clocks : Nat → State → State
  | 0, s => s
  | n + 1, s =>
    match exec .clock s with
    | .next t => clocks n t
    | .fault _ => s
    | .refused _ => s

end Sys2Proof.Machine
end

