-- ==== Sys2Proof/Certificates/Slice0/Obligations.lean ====
section
/-! DEFINITION. The statements for the provers. Each docstring names the rule of spec/ it formalises. A statement whose
conclusion is `exec i s = .next …` is also the instruction's completion statement and, being an equation of whole
states, its frame: what it does not write is unchanged. `hf : s.faultMark = none` is the premise every claim about a run
carries (60_exceptions.md R441). Operand fields are written as arithmetic on the data byte, not with the model's own
accessors. A docstring ends with the choices of the model (notes/assumptions) that its equations show. -/

open Sys2Proof Sys2Proof.Machine

/-! ## Palette chip -/

/-- R252: bit 4 selects the border pen 16, else the low nibble is the ink pen. Model: unwritten registers (log 7). -/
def Obligations.PalPenSelectsBorderOrInkPen : Prop :=
  ∀ (p : Addr) (d : Byte) (s : State), s.faultMark = none →
    exec (.palPen p d) s = .next { s with
      pal := { s.pal with selPen := if d.getLsbD 4 then 16 else Fin.ofNat 17 (d.toNat % 16) }
      unwritten := s.unwritten.filter (fun c => c != .selPen) }

/-- R253: the low five bits go to the selected pen; a drawn-under-fault `selPen` raises UNWRITTEN (R490). Model: a
fault is a next state (log 2), unwritten registers (log 7). -/
def Obligations.PalColourStoresLowFiveBits : Prop :=
  ∀ (p : Addr) (d : Byte) (s : State), s.faultMark = none →
    (isUnwritten s .selPen = false →
      exec (.palColour p d) s = .next { s with
        pal := { s.pal with pens := s.pal.pens.set s.pal.selPen (BitVec.ofNat 5 (d.toNat % 32)) }
        unwritten := s.unwritten.filter (fun c => c != .pen s.pal.selPen) }) ∧
    (isUnwritten s .selPen = true →
      exec (.palColour p d) s = .next { s with faultMark := some (.unwritten .selPen) })

/-- R254: mode and ROM enables; with the delay bit set `icount` is cleared, `irq` is cancelled and IRQ_CANCEL emitted;
`vdelay` never changes. Model: unwritten registers (log 7). -/
def Obligations.PalModeRomSetsModeEnablesAndDelay : Prop :=
  ∀ (p : Addr) (d : Byte) (s : State), s.faultMark = none →
    (d.getLsbD s.params.intDelayBit = false →
      exec (.palModeRom p d) s = .next { s with
        pal := { s.pal with
          mode := BitVec.ofNat 2 (d.toNat % 4)
          upperRomEn := !d.getLsbD s.params.upperRomDisableBit
          lowerRomEn := !d.getLsbD s.params.lowerRomDisableBit }
        unwritten := s.unwritten.filter (fun c => c != .mode) }) ∧
    (d.getLsbD s.params.intDelayBit = true →
      exec (.palModeRom p d) s = .next { s with
        pal := { s.pal with
          mode := BitVec.ofNat 2 (d.toNat % 4)
          upperRomEn := !d.getLsbD s.params.upperRomDisableBit
          lowerRomEn := !d.getLsbD s.params.lowerRomDisableBit
          icount := 0 }
        irq := false
        trace := s.trace ++ [.irqCancel]
        unwritten := s.unwritten.filter (fun c => c != .mode) })

/-! ## Memory-side ports, unhandled ports and undefined reads -/

/-- R255, R175: the bank configuration is the low three bits; R176: the upper ROM slot is the whole byte. -/
def Obligations.BankAndRomSelectWritesTakeIndex : Prop :=
  ∀ (p : Addr) (d : Byte) (s : State), s.faultMark = none →
    exec (.palBank p d) s = .next { s with mem := { s.mem with bankCfg := Fin.ofNat 8 (d.toNat % 8) } } ∧
    exec (.ramcfgWr p d) s = .next { s with mem := { s.mem with bankCfg := Fin.ofNat 8 (d.toNat % 8) } } ∧
    exec (.romselWr p d) s = .next { s with mem := { s.mem with upperRomSel := d } }

/-- R179: a write to a port whose bits 15 to 10 are all set is UNKNOWN_WR, and it changes nothing. -/
def Obligations.UnknownWritesChangeNothing : Prop :=
  ∀ (p : Addr) (d : Byte), p.toNat / 2 ^ 10 = 63 →
    (∀ q : Params, decode q (Stimulus.ofWord (BitVec.ofNat 27 (2 ^ 24 + p.toNat * 256 + d.toNat))) =
      .ok (.unknownWr p d)) ∧
    ∀ s : State, exec (.unknownWr p d) s = .next s

/-- R177, R178: writes to the printer and the expansion change nothing; R185: an unknown read gives 0xFF; R180 to
R184, R209 to R211, R305: nine reads give a free byte, fresh at each read (the counter moves on), and change no block
state. Model: draws (log 8), the value returned (log 9). -/
def Obligations.UnhandledPortsReadFreeAndIgnoreWrites : Prop :=
  ∀ (p : Addr) (d : Byte) (s : State), s.faultMark = none →
    exec (.printerWr p d) s = .next s ∧ exec (.expWr p d) s = .next s ∧
    exec (.unknownRd p) s = .next { s with returned := .byte 0xFF } ∧
    ∀ i ∈ [Instr.palRd p, .ramcfgRd p, .romselRd p, .printerRd p, .expRd p, .crtcRdFn0 p, .crtcRdFn1 p,
        .crtcStatusRd p, .ppiCtrlRd p],
      exec i s = .next { s with returned := .byte (Config.drawByte s.draws), draws := s.draws + 1 }

/-! ## SyncTimer registers -/

/-- R205: the whole byte is the index; 18 and above faults CONTRACT and selects nothing. Model: a fault is a next
state (log 2), unwritten registers (log 7). -/
def Obligations.CrtcSelectTakesIndexOrFaults : Prop :=
  ∀ (p : Addr) (d : Byte) (s : State), s.faultMark = none →
    (∀ h : d.toNat < 18, exec (.crtcSelect p d) s = .next { s with
      sync := { s.sync with crtcSel := ⟨d.toNat, h⟩ }
      unwritten := s.unwritten.filter (fun c => c != .crtcSel) }) ∧
    (18 ≤ d.toNat →
      exec (.crtcSelect p d) s = .next { s with faultMark := some (.contract .crtcRegisterIndex) })

/-- R206, R203, R202: the masked value is stored; a store into the width register recomputes both widths, a nibble of
0 giving 16, and no other store does; counters and flags stay (R204). Model: a fault is a next state (log 2),
unwritten registers (log 7). -/
def Obligations.CrtcWriteMasksAndRecomputesWidths : Prop :=
  ∀ (p : Addr) (d : Byte) (s : State), s.faultMark = none →
    let v := d &&& s.params.crtcMask[s.sync.crtcSel]
    (isUnwritten s .crtcSel = false →
      exec (.crtcWrite p d) s = .next { s with
        sync := { s.sync with
          regs := s.sync.regs.set s.sync.crtcSel v
          hw := if s.sync.crtcSel = s.params.crtcIndex.sw then (if v.toNat % 16 = 0 then 16 else v.toNat % 16)
            else s.sync.hw
          vw := if s.sync.crtcSel = s.params.crtcIndex.sw then (if v.toNat / 16 = 0 then 16 else v.toNat / 16)
            else s.sync.vw }
        unwritten := s.unwritten.filter (fun c => c != .crtcReg s.sync.crtcSel) }) ∧
    (isUnwritten s .crtcSel = true →
      exec (.crtcWrite p d) s = .next { s with faultMark := some (.unwritten .crtcSel) })

/-- R207, R208: a write to SyncTimer function 2 or 3 is refused: the mark keeps the first reason, nothing else changes
(R443). Model: a refusal is a next state (log 3). -/
def Obligations.CrtcUndefinedWritesAreRefused : Prop :=
  ∀ (p : Addr) (d : Byte) (s : State), s.faultMark = none →
    exec (.crtcWrFn2 p d) s = .next { s with refusalMark := some (s.refusalMark.getD .undefinedFunction) } ∧
    exec (.crtcWrFn3 p d) s = .next { s with refusalMark := some (s.refusalMark.getD .undefinedFunction) }

/-- R212: registers below FIRST_RW_REG read 0, the others their stored value; unwritten ones fault (R490). Model: a
fault is a next state (log 2), unwritten registers (log 7), the value returned (log 9). -/
def Obligations.CrtcReadGivesZeroBelowFirstRw : Prop :=
  ∀ (p : Addr) (s : State), s.faultMark = none →
    (isUnwritten s .crtcSel = false → s.sync.crtcSel.val < s.params.firstRwReg →
      exec (.crtcRead p) s = .next { s with returned := .byte 0 }) ∧
    (isUnwritten s .crtcSel = false → s.params.firstRwReg ≤ s.sync.crtcSel.val →
      isUnwritten s (.crtcReg s.sync.crtcSel) = false →
      exec (.crtcRead p) s = .next { s with returned := .byte s.sync.regs[s.sync.crtcSel] }) ∧
    (isUnwritten s .crtcSel = false → s.params.firstRwReg ≤ s.sync.crtcSel.val →
      isUnwritten s (.crtcReg s.sync.crtcSel) = true →
      exec (.crtcRead p) s = .next { s with faultMark := some (.unwritten (.crtcReg s.sync.crtcSel)) }) ∧
    (isUnwritten s .crtcSel = true →
      exec (.crtcRead p) s = .next { s with faultMark := some (.unwritten .crtcSel) })

/-- R73, R206, R212: select, write, read back, from any state without a fault and under either value of RESET_UNKNOWN:
no fault, and the value is the masked one, or 0 below FIRST_RW_REG. Model: the value returned (log 9). -/
def Obligations.CrtcSelectWriteReadBack : Prop :=
  ∀ (p1 p2 p3 : Addr) (i : Fin 18) (v : Byte) (s : State), s.faultMark = none →
    ∃ t u w, exec (.crtcSelect p1 (BitVec.ofNat 8 i.val)) s = .next t ∧ exec (.crtcWrite p2 v) t = .next u ∧
      exec (.crtcRead p3) u = .next w ∧ w.faultMark = none ∧
      w.returned = .byte (if i.val < s.params.firstRwReg then 0 else v &&& s.params.crtcMask[i])

/-! ## Memory -/

/-- R94, R173, R93: the lower ROM, the upper ROM with its fall-back to slot 0, ROM_ABSENT where no image serves the
read, and RAM through the bank table elsewhere. Model: unwritten RAM (log 7), a fault is a next state (log 2), RAM
never written (log 6), the value returned (log 9), ROM table and host calls (log 10). -/
def Obligations.MemReadFollowsOverlayThenBankTable : Prop :=
  ∀ (a : Addr) (s : State), s.faultMark = none →
    (a.toNat < 0x4000 → s.pal.lowerRomEn = true →
      (∀ img, s.mem.romImage[255] = some img →
        exec (.memRead a) s = .next { s with returned := .byte (img[a.toNat % 0x4000]'(Nat.mod_lt _ (by decide))) }) ∧
      (s.mem.romImage[255] = none →
        exec (.memRead a) s = .next { s with faultMark := some (.romAbsent 255) })) ∧
    (0xC000 ≤ a.toNat → s.pal.upperRomEn = true →
      (∀ img, s.mem.romImage[s.mem.upperRomSel.toNat]'s.mem.upperRomSel.isLt = some img →
        exec (.memRead a) s = .next { s with returned := .byte (img[a.toNat % 0x4000]'(Nat.mod_lt _ (by decide))) }) ∧
      (s.mem.romImage[s.mem.upperRomSel.toNat]'s.mem.upperRomSel.isLt = none →
        (∀ img, s.mem.romImage[0] = some img →
          exec (.memRead a) s = .next { s with returned := .byte (img[a.toNat % 0x4000]'(Nat.mod_lt _ (by decide))) }) ∧
        (s.mem.romImage[0] = none →
          exec (.memRead a) s = .next { s with faultMark := some (.romAbsent 0) }))) ∧
    (¬ s.overlaid a →
      (s.params.resetUnknown = .draw ∨ (s.mem.ram.read (ramAddress s a)).isSome = true →
        exec (.memRead a) s = .next { s with returned := .byte (ramByte s (ramAddress s a)) }) ∧
      (s.params.resetUnknown = .fault → s.mem.ram.read (ramAddress s a) = none →
        exec (.memRead a) s = .next { s with faultMark := some (.unwritten (.ramByte (ramAddress s a))) })) ∧
    (∀ w (hw : w < 4), a.toNat / 0x4000 = w →
      ramAddress s a = ((s.params.bankTable[s.mem.bankCfg])[w]).val * 0x4000 + a.toNat % 0x4000)

/-- R95, R174: a write lands in RAM at the bank-mapped byte whatever the overlays, and every other byte of RAM, every
ROM image and the rest of the state are unchanged. -/
def Obligations.MemWriteChangesOneRamByte : Prop :=
  ∀ (a : Addr) (v : Byte) (s : State), s.faultMark = none →
    ∃ m : Memory, exec (.memWrite a v) s = .next { s with mem := { s.mem with ram := m } } ∧
      ∀ b : Nat, m.read b = (if b = ramAddress s a then some v else s.mem.ram.read b)

/-- R104, R97, R497: after a write, a read of any address that reaches the same physical byte without an overlay gives
the value written; every other read gives what it gave before. Model: a fault is a next state (log 2), the value
returned (log 9). -/
def Obligations.ReadAfterWriteThroughBanks : Prop :=
  ∀ (a b : Addr) (v : Byte) (s : State), s.faultMark = none →
    ∃ t u w, exec (.memWrite a v) s = .next t ∧ exec (.memRead b) t = .next u ∧ exec (.memRead b) s = .next w ∧
      (¬ s.overlaid b → ramAddress s b = ramAddress s a → u.returned = .byte v ∧ u.faultMark = none) ∧
      (s.overlaid b ∨ ramAddress s b ≠ ramAddress s a → u.returned = w.returned ∧ u.faultMark = w.faultMark)

/-- R101, R98: the host's memory calls: one ROM slot set or cleared, the first n banks of RAM overwritten, the bank
configuration replaced; a bad index, size or count faults CONTRACT. Model: a fault is a next state (log 2), ROM table
and host calls (log 10). -/
def Obligations.HostMemoryCallsActOrFault : Prop :=
  ∀ s : State, s.faultMark = none →
    (∀ (i : Nat) (bytes : List Byte),
      (∀ (hi : i < 256), bytes.length = 0x4000 →
        ∃ img : RomImage, img.toList = bytes ∧ runHostCall (.loadROM i bytes) s = .next { s with
          mem := { s.mem with romImage := s.mem.romImage.set i (some img) } }) ∧
      (¬ (i < 256 ∧ bytes.length = 0x4000) →
        runHostCall (.loadROM i bytes) s = .next { s with faultMark := some (.contract .rom) }) ∧
      (∀ (hi : i < 256), runHostCall (.unloadROM i) s = .next { s with
        mem := { s.mem with romImage := s.mem.romImage.set i none } }) ∧
      (256 ≤ i → runHostCall (.unloadROM i) s = .next { s with faultMark := some (.contract .rom) })) ∧
    (∀ (bytes : List Byte) (n : Nat),
      ((n = 4 ∨ n = 8) ∧ bytes.length = n * 0x4000 →
        ∃ m : Memory, runHostCall (.bulkLoadRAM bytes n) s = .next { s with mem := { s.mem with ram := m } } ∧
          (∀ (k : Nat) (hk : k < bytes.length), m.read k = some bytes[k]) ∧
          (∀ k : Nat, bytes.length ≤ k → m.read k = s.mem.ram.read k)) ∧
      (¬ ((n = 4 ∨ n = 8) ∧ bytes.length = n * 0x4000) →
        runHostCall (.bulkLoadRAM bytes n) s = .next { s with faultMark := some (.contract .bulk) })) ∧
    (∀ i : Nat,
      (∀ hi : i < 8, runHostCall (.selectBank i) s = .next { s with mem := { s.mem with bankCfg := ⟨i, hi⟩ } }) ∧
      (8 ≤ i → runHostCall (.selectBank i) s = .next { s with faultMark := some (.contract .bankIndex) }))

/-! ## PPI -/

/-- R296, R334, R335, R333, R294: an output write latches the byte and runs the bus function in force; an input write
leaves the latch at the old or the new byte, drawn, and runs nothing. Model: a fault is a next state (log 2), draws
(log 8). -/
def Obligations.PpiPortAWriteAppliesBusFunction : Prop :=
  ∀ (p : Addr) (d : Byte) (s : State), s.faultMark = none →
    (s.ppi.dirA = .OUT → (s.psg.psgFn = .inactive ∨ s.psg.psgFn = .read) →
      exec (.ppiAWr p d) s = .next { s with ppi := { s.ppi with latchA := d } }) ∧
    (s.ppi.dirA = .OUT → s.psg.psgFn = .write →
      exec (.ppiAWr p d) s = .next { s with
        ppi := { s.ppi with latchA := d }, psg := s.psg.writeReg s.params s.psg.psgSel d }) ∧
    (s.ppi.dirA = .OUT → s.psg.psgFn = .select → ∀ h : d.toNat < 16,
      exec (.ppiAWr p d) s = .next { s with
        ppi := { s.ppi with latchA := d }, psg := { s.psg with psgSel := ⟨d.toNat, h⟩ } }) ∧
    (s.ppi.dirA = .OUT → s.psg.psgFn = .select → 16 ≤ d.toNat →
      ∃ t, exec (.ppiAWr p d) s = .next t ∧ t.faultMark = some (.contract .psgRegisterIndex)) ∧
    (s.ppi.dirA = .IN →
      exec (.ppiAWr p d) s = .next { s with
        ppi := { s.ppi with latchA := if Config.drawTakesNew s.draws then d else s.ppi.latchA }
        draws := s.draws + 1 })

/-- R295, R345, R346: an output port A reads its latch; an input one reads the SoundChip's bus: the selected register,
the keyboard row under register 14, a free byte unless the function is READ. Model: draws (log 8), the value returned
(log 9), keyboard and sink (log 18). -/
def Obligations.PpiPortAReadGivesLatchOrBus : Prop :=
  ∀ (p : Addr) (s : State), s.faultMark = none →
    (s.ppi.dirA = .OUT → exec (.ppiARd p) s = .next { s with returned := .byte s.ppi.latchA }) ∧
    (s.ppi.dirA = .IN → s.psg.psgFn = .read → s.psg.psgSel ≠ 14 →
      exec (.ppiARd p) s = .next { s with returned := .byte s.psg.regs[s.psg.psgSel] }) ∧
    (s.ppi.dirA = .IN → s.psg.psgFn = .read → s.psg.psgSel = 14 →
      exec (.ppiARd p) s = .next { s with
        returned := .byte (Config.keyboardInput s.ppi.kbdRow s.draws), draws := s.draws + 1 }) ∧
    (s.ppi.dirA = .IN → s.psg.psgFn ≠ .read →
      exec (.ppiARd p) s = .next { s with returned := .byte (Config.drawByte s.draws), draws := s.draws + 1 })

/-- R297, R298, R301: port B: an input read gives PORTB_STATIC with `inV` in bit 0, an output read the latch; an
output write latches, an input write leaves the old or the new byte, drawn. Model: draws (log 8), the value returned
(log 9). -/
def Obligations.PpiPortBReadsStatusAndLatches : Prop :=
  ∀ (p : Addr) (d : Byte) (s : State), s.faultMark = none →
    (s.ppi.dirB = .IN → ∃ v : Byte, exec (.ppiBRd p) s = .next { s with returned := .byte v } ∧
      v.getLsbD 0 = s.sync.inV ∧ ∀ k, 1 ≤ k → k < 8 → v.getLsbD k = s.params.portBStatic.getLsbD k) ∧
    (s.ppi.dirB = .OUT → exec (.ppiBRd p) s = .next { s with returned := .byte s.ppi.latchB }) ∧
    (s.ppi.dirB = .OUT → exec (.ppiBWr p d) s = .next { s with ppi := { s.ppi with latchB := d } }) ∧
    (s.ppi.dirB = .IN → exec (.ppiBWr p d) s = .next { s with
      ppi := { s.ppi with latchB := if Config.drawTakesNew s.draws then d else s.ppi.latchB }
      draws := s.draws + 1 })

/-- R299: each half of port C reads its latch in output mode and a free nibble in input mode. Model: draws (log 8),
the value returned (log 9). -/
def Obligations.PpiPortCReadsHalves : Prop :=
  ∀ (p : Addr) (s : State), s.faultMark = none →
    ∃ v : Byte, exec (.ppiCRd p) s = .next { s with
        returned := .byte v
        draws := s.draws + (if s.ppi.dirCu = .OUT then 0 else 1) + (if s.ppi.dirCl = .OUT then 0 else 1) } ∧
      (s.ppi.dirCu = .OUT → v.toNat / 16 = s.ppi.latchC.toNat / 16) ∧
      (s.ppi.dirCl = .OUT → v.toNat % 16 = s.ppi.latchC.toNat % 16) ∧
      (s.ppi.dirCu = .IN → v.toNat / 16 = (Config.drawNibble s.draws).toNat) ∧
      (s.ppi.dirCl = .IN → v.toNat % 16 =
        (Config.drawNibble (s.draws + (if s.ppi.dirCu = .OUT then 0 else 1))).toNat)

/-- `t` is `s` after port C's latch took `c` and its side effects ran once (R293, R332, R333, R335): the keyboard row,
its event, the bus function, and what that function does with port A's latch, a fault being a next state (log 2). -/
def portCPushed (s : State) (c : Byte) (t : State) : Prop :=
  let f := s.params.psgFnOf[c.toNat / 64]'(by have := c.isLt; omega)
  let base : State := { s with
    ppi := { s.ppi with latchC := c, kbdRow := BitVec.ofNat 4 (c.toNat % 16) }
    psg := { s.psg with psgFn := f }
    trace := s.trace ++ [.kbdRow (BitVec.ofNat 4 (c.toNat % 16))] }
  ((f = .inactive ∨ f = .read) → t = base) ∧
  (f = .write → t = { base with psg := base.psg.writeReg s.params s.psg.psgSel s.ppi.latchA }) ∧
  (f = .select → ∀ h : s.ppi.latchA.toNat < 16,
    t = { base with psg := { base.psg with psgSel := ⟨s.ppi.latchA.toNat, h⟩ } }) ∧
  (f = .select → 16 ≤ s.ppi.latchA.toNat → t.faultMark = some (.contract .psgRegisterIndex))

/-- R300, R293, R294: each half of the latch takes the new nibble in output mode and the old or the new one, drawn, in
input mode; the side effects run once when at least one half is OUT, and not at all when both are IN. Model: a fault
is a next state (log 2), draws (log 8). -/
def Obligations.PpiPortCWritePushesOnce : Prop :=
  ∀ (p : Addr) (d : Byte) (s : State), s.faultMark = none →
    ∃ (c : Byte) (n : Nat) (t : State), exec (.ppiCWr p d) s = .next t ∧
      n = s.draws + (if s.ppi.dirCu = .OUT then 0 else 1) + (if s.ppi.dirCl = .OUT then 0 else 1) ∧
      c.toNat / 16 = (if s.ppi.dirCu = .OUT ∨ Config.drawTakesNew s.draws = true then d.toNat / 16
        else s.ppi.latchC.toNat / 16) ∧
      c.toNat % 16 = (if s.ppi.dirCl = .OUT ∨
          Config.drawTakesNew (s.draws + (if s.ppi.dirCu = .OUT then 0 else 1)) = true
        then d.toNat % 16 else s.ppi.latchC.toNat % 16) ∧
      ((s.ppi.dirCu = .OUT ∨ s.ppi.dirCl = .OUT) → portCPushed { s with draws := n } c t) ∧
      ((s.ppi.dirCu = .IN ∧ s.ppi.dirCl = .IN) → t = { s with ppi := { s.ppi with latchC := c }, draws := n })

/-- R303, R56: a mode set with both mode fields 0 sets the four directions and zeroes the latches, with no side
effect; a non-zero mode field is refused. Model: a refusal is a next state (log 3). -/
def Obligations.PpiModeSetWritesDirectionsOrRefuses : Prop :=
  ∀ (p : Addr) (d : Byte) (s : State), s.faultMark = none →
    (d.toNat / 32 % 4 = 0 → d.getLsbD 2 = false →
      exec (.ppiCtrlMode p d) s = .next { s with
        ppi := {
          latchA := 0, latchB := 0, latchC := 0
          dirA := if d.getLsbD 4 then .IN else .OUT
          dirCu := if d.getLsbD 3 then .IN else .OUT
          dirB := if d.getLsbD 1 then .IN else .OUT
          dirCl := if d.getLsbD 0 then .IN else .OUT
          modeA := 0, modeB := 0
          kbdRow := s.ppi.kbdRow } }) ∧
    ((d.toNat / 32 % 4 ≠ 0 ∨ d.getLsbD 2 = true) →
      exec (.ppiCtrlMode p d) s = .next { s with refusalMark := some (s.refusalMark.getD .ppiMode) })

/-- R304, R293: one bit of port C's latch is set or cleared, even in an input half; the side effects run once when at
least one half is OUT. Model: a fault is a next state (log 2). -/
def Obligations.PpiBitSetResetPushesOnce : Prop :=
  ∀ (p : Addr) (d : Byte) (s : State), s.faultMark = none →
    ∃ (c : Byte) (t : State), exec (.ppiCtrlBsr p d) s = .next t ∧
      (∀ k, k < 8 → c.getLsbD k = if k = d.toNat / 2 % 8 then d.getLsbD 0 else s.ppi.latchC.getLsbD k) ∧
      ((s.ppi.dirCu = .OUT ∨ s.ppi.dirCl = .OUT) → portCPushed s c t) ∧
      ((s.ppi.dirCu = .IN ∧ s.ppi.dirCl = .IN) → t = { s with ppi := { s.ppi with latchC := c } })

/-! ## SoundChip registers, written by the host (R415) -/

/-- R414, R333: the host selects a register; 16 and above faults CONTRACT. Model: a fault is a next state (log 2). -/
def Obligations.PsgHostSelectTakesIndexOrFaults : Prop :=
  ∀ (r : Byte) (s : State), s.faultMark = none →
    (∀ h : r.toNat < 16, exec (.psgHostSelect r) s = .next { s with psg := { s.psg with psgSel := ⟨r.toNat, h⟩ } }) ∧
    (16 ≤ r.toNat →
      exec (.psgHostSelect r) s = .next { s with faultMark := some (.contract .psgRegisterIndex) })

/-- R336, R337, R415: a store into a tone register recomputes its channel's period, `max 1 (low + 256 high)`, and
nothing else (R344: `tcount` and `pol` stay). -/
def Obligations.PsgToneWritesRecomputePeriod : Prop :=
  ∀ (v : Byte) (s : State), s.faultMark = none →
    let per (lo hi : Byte) : Nat := max 1 (lo.toNat + 256 * hi.toNat)
    (s.psg.psgSel = 0 → exec (.psgHostWrite v) s = .next { s with psg := { s.psg with
      regs := s.psg.regs.set 0 (v &&& s.params.psgMask[0])
      chA := { s.psg.chA with period := per (v &&& s.params.psgMask[0]) s.psg.regs[1] } } }) ∧
    (s.psg.psgSel = 1 → exec (.psgHostWrite v) s = .next { s with psg := { s.psg with
      regs := s.psg.regs.set 1 (v &&& s.params.psgMask[1])
      chA := { s.psg.chA with period := per s.psg.regs[0] (v &&& s.params.psgMask[1]) } } }) ∧
    (s.psg.psgSel = 2 → exec (.psgHostWrite v) s = .next { s with psg := { s.psg with
      regs := s.psg.regs.set 2 (v &&& s.params.psgMask[2])
      chB := { s.psg.chB with period := per (v &&& s.params.psgMask[2]) s.psg.regs[3] } } }) ∧
    (s.psg.psgSel = 3 → exec (.psgHostWrite v) s = .next { s with psg := { s.psg with
      regs := s.psg.regs.set 3 (v &&& s.params.psgMask[3])
      chB := { s.psg.chB with period := per s.psg.regs[2] (v &&& s.params.psgMask[3]) } } }) ∧
    (s.psg.psgSel = 4 → exec (.psgHostWrite v) s = .next { s with psg := { s.psg with
      regs := s.psg.regs.set 4 (v &&& s.params.psgMask[4])
      chC := { s.psg.chC with period := per (v &&& s.params.psgMask[4]) s.psg.regs[5] } } }) ∧
    (s.psg.psgSel = 5 → exec (.psgHostWrite v) s = .next { s with psg := { s.psg with
      regs := s.psg.regs.set 5 (v &&& s.params.psgMask[5])
      chC := { s.psg.chC with period := per s.psg.regs[4] (v &&& s.params.psgMask[5]) } } })

/-- R338, R341, R343: the noise and envelope period registers recompute their period and restart no counter; the I/O
port registers recompute nothing. -/
def Obligations.PsgNoiseEnvelopeAndPortWrites : Prop :=
  ∀ (v : Byte) (s : State), s.faultMark = none →
    (s.psg.psgSel = 6 → exec (.psgHostWrite v) s = .next { s with psg := { s.psg with
      regs := s.psg.regs.set 6 (v &&& s.params.psgMask[6])
      nperiod := max 1 ((v &&& s.params.psgMask[6]).toNat % 32) } }) ∧
    (s.psg.psgSel = 11 → exec (.psgHostWrite v) s = .next { s with psg := { s.psg with
      regs := s.psg.regs.set 11 (v &&& s.params.psgMask[11])
      eperiod := max 1 ((v &&& s.params.psgMask[11]).toNat + 256 * s.psg.regs[12].toNat) } }) ∧
    (s.psg.psgSel = 12 → exec (.psgHostWrite v) s = .next { s with psg := { s.psg with
      regs := s.psg.regs.set 12 (v &&& s.params.psgMask[12])
      eperiod := max 1 (s.psg.regs[11].toNat + 256 * (v &&& s.params.psgMask[12]).toNat) } }) ∧
    (s.psg.psgSel = 14 → exec (.psgHostWrite v) s = .next { s with psg := { s.psg with
      regs := s.psg.regs.set 14 (v &&& s.params.psgMask[14]) } }) ∧
    (s.psg.psgSel = 15 → exec (.psgHostWrite v) s = .next { s with psg := { s.psg with
      regs := s.psg.regs.set 15 (v &&& s.params.psgMask[15]) } })

/-- R339, R340: the mixer register sets the active-low enables and the port directions from its bits; a volume
register sets the 4-bit volume and the envelope-follow flag. -/
def Obligations.PsgMixerAndVolumeWrites : Prop :=
  ∀ (v : Byte) (s : State), s.faultMark = none →
    (s.psg.psgSel = 7 →
      let m := v &&& s.params.psgMask[7]
      exec (.psgHostWrite v) s = .next { s with psg := { s.psg with
        regs := s.psg.regs.set 7 m
        chA := { s.psg.chA with toneEn := !m.getLsbD 0, noiseEn := !m.getLsbD 3 }
        chB := { s.psg.chB with toneEn := !m.getLsbD 1, noiseEn := !m.getLsbD 4 }
        chC := { s.psg.chC with toneEn := !m.getLsbD 2, noiseEn := !m.getLsbD 5 }
        ioADirOut := m.getLsbD 6, ioBDirOut := m.getLsbD 7 } }) ∧
    (s.psg.psgSel = 8 →
      let m := v &&& s.params.psgMask[8]
      exec (.psgHostWrite v) s = .next { s with psg := { s.psg with
        regs := s.psg.regs.set 8 m
        chA := { s.psg.chA with vol := BitVec.ofNat 4 (m.toNat % 16), envF := m.getLsbD 4 } } }) ∧
    (s.psg.psgSel = 9 →
      let m := v &&& s.params.psgMask[9]
      exec (.psgHostWrite v) s = .next { s with psg := { s.psg with
        regs := s.psg.regs.set 9 m
        chB := { s.psg.chB with vol := BitVec.ofNat 4 (m.toNat % 16), envF := m.getLsbD 4 } } }) ∧
    (s.psg.psgSel = 10 →
      let m := v &&& s.params.psgMask[10]
      exec (.psgHostWrite v) s = .next { s with psg := { s.psg with
        regs := s.psg.regs.set 10 m
        chC := { s.psg.chC with vol := BitVec.ofNat 4 (m.toNat % 16), envF := m.getLsbD 4 } } })

/-- R342: a shape write, under the mask constraint of R60 and a non-empty table, restarts the envelope: position and
counter 0, the level at the shape's first entry, hold for shapes 0 to 7 and the odd ones. -/
def Obligations.PsgShapeWriteRestartsEnvelope : Prop :=
  ∀ (v : Byte) (s : State) (n : Fin 16) (e : BitVec 4), s.faultMark = none → s.psg.psgSel = 13 →
    (v &&& s.params.psgMask[13]).toNat = n.val → (s.params.envTable[n]).head? = some e →
    exec (.psgHostWrite v) s = .next { s with psg := { s.psg with
      regs := s.psg.regs.set 13 (v &&& s.params.psgMask[13])
      shape := BitVec.ofNat 4 n.val, pos := 0, ecount := 0, elevel := e
      hold := decide (n.val < 8 ∨ n.val % 2 = 1) } }

/-- R347: what the host writes into a register other than 14 is read back masked through port A under READ, whatever
register was selected before. Model: the value returned (log 9). -/
def Obligations.PsgWriteReadsBackMasked : Prop :=
  ∀ (p : Addr) (i : Fin 16) (v : Byte) (s : State), s.faultMark = none → i ≠ 14 → s.ppi.dirA = .IN →
    s.psg.psgFn = .read →
    ∃ t u w, exec (.psgHostSelect (BitVec.ofNat 8 i.val)) s = .next t ∧ exec (.psgHostWrite v) t = .next u ∧
      exec (.ppiARd p) u = .next w ∧ w.faultMark = none ∧ w.returned = .byte (v &&& s.params.psgMask[i])

/-! ## CLOCK: the SyncTimer's half -/

/-- R215: a tick inside a scanline with no hsync start advances the column and runs the hsync countdown; everything
else outside the SoundChip and its samples is unchanged, and a sample is emitted only where one is due. Model:
unwritten registers (log 7). -/
def Obligations.ClockInsideScanlineAdvancesColumn : Prop :=
  ∀ s : State, s.clockRuns → s.sync.col < s.ht → ¬ s.hsyncStarts →
    ∃ c l, l.length = (if s.sampleDue then 1 else 0) ∧ exec .clock s = .next { s with
      sync := { s.sync with
        col := s.sync.col + 1
        hcount := if s.sync.inH then s.sync.hcount - 1 else s.sync.hcount
        inH := s.sync.inH && decide (1 < s.sync.hcount) }
      psg := c
      trace := s.trace ++ sampleEvents l }

/-- R215, R260: the tick that reaches HSP with no pulse running loads the pulse, emits HSYNC and runs the palette's
listener: `icount` counts to 52 with no delay pending; a pending delay counts down and, at 0, requests only from 32 on
and clears the counter. Model: unwritten registers (log 7). -/
def Obligations.ClockStartsHsyncAndCountsInterrupts : Prop :=
  ∀ s : State, s.clockRuns → s.sync.col < s.ht → s.hsyncStarts →
    let fires : Bool := (s.pal.vdelay = 0 ∧ s.pal.icount + 1 = 52) ∨ (s.pal.vdelay = 1 ∧ 32 ≤ s.pal.icount + 1)
    ∃ c l, l.length = (if s.sampleDue then 1 else 0) ∧ exec .clock s = .next { s with
      sync := { s.sync with col := s.sync.col + 1, hcount := s.sync.hw, inH := true }
      pal := { s.pal with
        icount := if s.pal.vdelay = 1 ∨ (s.pal.vdelay = 0 ∧ s.pal.icount + 1 = 52) then 0 else s.pal.icount + 1
        vdelay := s.pal.vdelay - 1 }
      irq := s.irq || fires
      psg := c
      trace := s.trace ++ [.hsync] ++ (if fires then [.irqSet] else []) ++ sampleEvents l }

/-- R215, R217, R262: the tick after the last column wraps the column, steps the line and the row with their wraps,
runs the vsync countdown, and enters vsync where the row is VSP and no pulse runs: the countdown is loaded, VSYNC
emitted and the interrupt delay set to 2. Model: unwritten registers (log 7). -/
def Obligations.ClockEndsScanlineAndEntersVsync : Prop :=
  ∀ s : State, s.clockRuns → s.sync.col = s.ht →
    let line' := if s.sync.line = s.mra then 0 else s.sync.line + 1
    let row' := if s.sync.line = s.mra then (if s.sync.row = s.vt then 0 else s.sync.row + 1) else s.sync.row
    let inV' := s.sync.inV && decide (1 < s.sync.vcount)
    let enters : Bool := (s.params.vsyncCheck = .perScanline ∨ line' = 0) ∧ inV' = false ∧ row' = s.vsp
    ∃ c l, l.length = (if s.sampleDue then 1 else 0) ∧ exec .clock s = .next { s with
      sync := { s.sync with
        col := 0, line := line', row := row'
        hcount := if s.sync.inH then s.sync.hcount - 1 else s.sync.hcount
        inH := s.sync.inH && decide (1 < s.sync.hcount)
        vcount := if enters then s.sync.vw else if s.sync.inV then s.sync.vcount - 1 else s.sync.vcount
        inV := inV' || enters }
      pal := { s.pal with vdelay := if enters then 2 else s.pal.vdelay }
      psg := c
      trace := s.trace ++ (if enters then [.vsync] else []) ++ sampleEvents l }

/-- R216, R261, R490, R393, R186: every fault of a CLOCK. The first that applies, in the order of R215, of an
unwritten register the tick reads, a counter past its limit or `icount` past 52 with no delay, is raised and leaves
the SoundChip as it was; where the SyncTimer's half raises none, a due sample into a full buffer is. Model: a fault is
a next state (log 2), unwritten registers (log 7), the full buffer (log 14). -/
def Obligations.ClockFaultsOnOverrun : Prop :=
  ∀ s : State, s.faultMark = none →
    let faults (m : Fault) : Prop := ∃ t, exec .clock s = .next t ∧ t.faultMark = some m ∧ t.psg = s.psg
    let ix := s.params.crtcIndex
    let inside : Prop := s.holds (.crtcReg ix.ht) ∧ s.sync.col < s.ht
    let starts : Prop := inside ∧ s.holds (.crtcReg ix.hsp) ∧ s.hsyncStarts
    let ends : Prop := s.holds (.crtcReg ix.ht) ∧ s.sync.col = s.ht
    let wraps : Prop := ends ∧ s.holds (.crtcReg ix.mra) ∧ s.sync.line = s.mra
    let tested : Prop := ends ∧ s.holds (.crtcReg ix.mra) ∧ s.sync.line ≤ s.mra ∧
      (s.sync.line = s.mra → s.holds (.crtcReg ix.vt) ∧ s.sync.row ≤ s.vt) ∧ s.vsyncTested
    (¬ s.holds (.crtcReg ix.ht) → faults (.unwritten (.crtcReg ix.ht))) ∧
    (s.holds (.crtcReg ix.ht) ∧ s.ht < s.sync.col → faults (.overrun .col)) ∧
    (inside ∧ ¬ s.holds (.crtcReg ix.hsp) → faults (.unwritten (.crtcReg ix.hsp))) ∧
    (starts ∧ ¬ s.holds .hw → faults (.unwritten .hw)) ∧
    (starts ∧ s.holds .hw ∧ s.pal.vdelay = 0 ∧ 52 ≤ s.pal.icount → faults (.overrun .icount)) ∧
    (ends ∧ ¬ s.holds (.crtcReg ix.mra) → faults (.unwritten (.crtcReg ix.mra))) ∧
    (ends ∧ s.holds (.crtcReg ix.mra) ∧ s.mra < s.sync.line → faults (.overrun .line)) ∧
    (wraps ∧ ¬ s.holds (.crtcReg ix.vt) → faults (.unwritten (.crtcReg ix.vt))) ∧
    (wraps ∧ s.holds (.crtcReg ix.vt) ∧ s.vt < s.sync.row → faults (.overrun .row)) ∧
    (tested ∧ ¬ s.holds (.crtcReg ix.vsp) → faults (.unwritten (.crtcReg ix.vsp))) ∧
    (tested ∧ s.holds (.crtcReg ix.vsp) ∧ s.nextRow = s.vsp ∧ ¬ s.holds .vw → faults (.unwritten .vw)) ∧
    (¬ s.timingRuns → ∃ m, faults m) ∧
    (s.timingRuns → s.sampleDue → ¬ s.bufferHasRoom →
      ∃ t, exec .clock s = .next t ∧ t.faultMark = some (.overrun .sampleBuffer))

/-- R38, R216, R261: with the registers CLOCK reads written, the counters within their limits and no sample due into a
full buffer, a CLOCK raises nothing, leaves those registers written and the counters within their limits. Model:
unwritten registers (log 7). -/
def Obligations.ClockKeepsCountersInRange : Prop :=
  ∀ s : State, s.timingReady → s.sampleFits → ∃ t, exec .clock s = .next t ∧ t.timingReady

/-! ## CLOCK: the SoundChip's half -/

/-- R371, R14: on every tick the tick counter advances mod 16 and the registers, the selection, the bus function, the
noise and envelope periods and the port directions are as before; on the ticks between tone updates nothing but the
tick counter changes in the SoundChip and no sample is emitted, on the others the update count advances or, at
SAMPLE_DECIMATION, returns to 0. Model: unwritten registers (log 7). -/
def Obligations.ClockCountsTicksAndToneUpdates : Prop :=
  ∀ s : State, s.clockRuns →
    ∃ t, exec .clock s = .next t ∧ t.faultMark = none ∧ t.psg.stick = (s.psg.stick + 1) % 16 ∧
      (t.psg.regs = s.psg.regs ∧ t.psg.psgSel = s.psg.psgSel ∧ t.psg.psgFn = s.psg.psgFn ∧
        t.psg.nperiod = s.psg.nperiod ∧ t.psg.eperiod = s.psg.eperiod ∧
        t.psg.ioADirOut = s.psg.ioADirOut ∧ t.psg.ioBDirOut = s.psg.ioBDirOut) ∧
      ((s.psg.stick + 1) % 16 % 8 ≠ 0 → t.psg = { s.psg with stick := (s.psg.stick + 1) % 16 } ∧
        ∃ l, t.trace = s.trace ++ l ∧ ∀ x y, Event.sample x y ∉ l) ∧
      ((s.psg.stick + 1) % 16 % 8 = 0 → t.psg.scount =
        if s.psg.scount + 1 = s.params.sampleDecimation then 0 else s.psg.scount + 1)

/-- R373, R374, R375: at a tone update the noise counter advances or, at its period, returns to 0 and the shift
register steps: under every LFSR_FORM the output toggles exactly when bits 1 and 0 differ, before the shift, and an
admitted form keeps a non-zero register non-zero; a Galois form, as the reference, XORs its constant in when bit 0 is
set and shifts. Model: unwritten registers (log 7), the shift register (log 15). -/
def Obligations.ToneUpdateStepsNoise : Prop :=
  ∀ s : State, s.clockRuns → (s.psg.stick + 1) % 16 % 8 = 0 →
    ∃ t, exec .clock s = .next t ∧ t.faultMark = none ∧
      (s.psg.ncount + 1 < s.psg.nperiod →
        t.psg.ncount = s.psg.ncount + 1 ∧ t.psg.rng = s.psg.rng ∧ t.psg.nout = s.psg.nout) ∧
      (s.psg.nperiod ≤ s.psg.ncount + 1 →
        t.psg.ncount = 0 ∧
        t.psg.nout = (s.psg.nout ^^ (s.psg.rng.getLsbD 1 != s.psg.rng.getLsbD 0)) ∧
        (s.params.lfsrForm.keepsNonZero = true → s.psg.rng ≠ 0 → t.psg.rng ≠ 0) ∧
        (∀ c, s.params.lfsrForm = .galois c → t.psg.rng.toNat =
          (if s.psg.rng.toNat % 2 = 1 then s.psg.rng.toNat ^^^ c.toNat else s.psg.rng.toNat) / 2))

/-- The polarity of a channel after a tone update (R376). -/
def polAfter (c : Channel) : Bool := if c.period ≤ c.tcount + 1 then !c.pol else c.pol

/-- The accumulator of a channel after a tone update that leaves the noise output at `n`, at envelope level `e`
(R376, R377, R378): the level's volume is added when each enabled source is high and subtracted otherwise. -/
def accAfter (q : Params) (n : Bool) (e : BitVec 4) (c : Channel) : Int :=
  let v : Int := (q.volumeTable[(if c.envF then e else c.vol).toNat]'(BitVec.isLt _) : Nat)
  if (polAfter c = true ∨ c.toneEn = false) ∧ (n = true ∨ c.noiseEn = false) then c.acc + v else c.acc - v

/-- R376, R377, R378, R372: at a tone update every channel's counter and polarity advance, and its accumulator takes
the level's volume with the sign of its gated output: the noise output is the new one, the envelope level the old.
Model: unwritten registers (log 7). -/
def Obligations.ToneUpdateAdvancesChannels : Prop :=
  ∀ s : State, s.clockRuns → (s.psg.stick + 1) % 16 % 8 = 0 →
    ∃ t, exec .clock s = .next t ∧ t.faultMark = none ∧
      ∀ g ∈ [SoundChip.chA, SoundChip.chB, SoundChip.chC],
        g t.psg = { g s.psg with
          tcount := if (g s.psg).period ≤ (g s.psg).tcount + 1 then 0 else (g s.psg).tcount + 1
          pol := polAfter (g s.psg)
          acc := if s.psg.scount + 1 = s.params.sampleDecimation then 0
            else accAfter s.params t.psg.nout s.psg.elevel (g s.psg) }

/-- R386, R371: every second tone update advances the envelope counter and, at its period, the position: at the end of
the table the last one (hold) or 0, with the level of that position; the other tone updates leave it. Model: unwritten
registers (log 7). -/
def Obligations.EnvelopeAdvancesEverySixteenTicks : Prop :=
  ∀ s : State, s.clockRuns → (s.psg.stick + 1) % 16 % 8 = 0 →
    let l := s.params.envTable[s.psg.shape.toNat]'s.psg.shape.isLt
    let pos' := if l.length ≤ s.psg.pos + 1 then (if s.psg.hold then l.length - 1 else 0) else s.psg.pos + 1
    ∃ t, exec .clock s = .next t ∧ t.faultMark = none ∧ t.psg.shape = s.psg.shape ∧ t.psg.hold = s.psg.hold ∧
      ((s.psg.stick + 1) % 16 = 0 → s.psg.eperiod ≤ s.psg.ecount + 1 →
        t.psg.ecount = 0 ∧ t.psg.pos = pos' ∧ ∀ e, l[pos']? = some e → t.psg.elevel = e) ∧
      ((s.psg.stick + 1) % 16 = 0 → s.psg.ecount + 1 < s.psg.eperiod →
        t.psg.ecount = s.psg.ecount + 1 ∧ t.psg.pos = s.psg.pos ∧ t.psg.elevel = s.psg.elevel) ∧
      ((s.psg.stick + 1) % 16 ≠ 0 →
        t.psg.ecount = s.psg.ecount ∧ t.psg.pos = s.psg.pos ∧ t.psg.elevel = s.psg.elevel)

/-- R390, R393: the tick whose tone update completes SAMPLE_DECIMATION appends one sample, left C + B and right A + B
of the accumulators after that update, to the buffer and, as its only and last SAMPLE event, to the trace; every other
tick appends none. Model: unwritten registers (log 7), sample conversion (log 16). -/
def Obligations.SampleIsLeftCBRightAB : Prop :=
  ∀ s : State, s.clockRuns →
    ∃ t l, exec .clock s = .next t ∧ t.faultMark = none ∧ (∀ x y, Event.sample x y ∉ l) ∧
      let acc (c : Channel) : Int := accAfter s.params t.psg.nout s.psg.elevel c
      let left := Config.sampleConvert (acc s.psg.chC + acc s.psg.chB)
      let right := Config.sampleConvert (acc s.psg.chA + acc s.psg.chB)
      (s.sampleDue → t.psg.obuf = s.psg.obuf ++ [⟨left, right⟩] ∧ t.trace = s.trace ++ l ++ [.sample left right]) ∧
      (¬ s.sampleDue → t.psg.obuf = s.psg.obuf ∧ t.trace = s.trace ++ l)

/-! ## Acknowledge and host operations -/

/-- R187, R264, R416, R417, R267: INTACK clears bit 5 of `icount` and the request; SET_IRQ_LINE sets or clears the
request with its event; QUERY_VSYNC returns `inV`. Model: the value returned (log 9). -/
def Obligations.AcknowledgeIrqLineAndVsyncQuery : Prop :=
  ∀ s : State, s.faultMark = none →
    exec .intack s = .next { s with
      pal := { s.pal with icount := if s.pal.icount / 32 % 2 = 1 then s.pal.icount - 32 else s.pal.icount }
      irq := false } ∧
    exec (.setIrqLine true) s = .next { s with irq := true, trace := s.trace ++ [.irqSet] } ∧
    exec (.setIrqLine false) s = .next { s with irq := false, trace := s.trace ++ [.irqCancel] } ∧
    exec .queryVsync s = .next { s with returned := .flag s.sync.inV }

/-- R410, R480 to R485, R490: RESET, from any state without a fault mark: every component at the value the rules give,
the unknown ones and RAM drawn under the present count of draws, which moves on (R13: the next draws are fresh), the
SyncTimer's registers masked and the widths agreeing with them; the ROM table, the trace, the refusal mark and the
parameters kept; under RESET_UNKNOWN = fault every unknown component is unwritten. Model: the queue of
inputs (log 1), RAM never written (log 6), unwritten registers (log 7), draws (log 8), the value returned (log 9), ROM
table and host calls (log 10). -/
def Obligations.ResetGivesStatedValues : Prop :=
  ∀ s : State, s.faultMark = none → ∃ t, exec .reset s = .next t ∧
    (∀ i : Fin 16, t.psg.regs[i] = 0) ∧ t.psg.psgSel = 0 ∧ t.psg.psgFn = .inactive ∧
    (∀ g ∈ [SoundChip.chA, SoundChip.chB, SoundChip.chC], g t.psg =
      { period := 1, tcount := 0, pol := false, toneEn := true, noiseEn := true, vol := 0, envF := false, acc := 0 }) ∧
    t.psg.ioADirOut = false ∧ t.psg.ioBDirOut = false ∧ t.psg.rng = 1 ∧ t.psg.nperiod = 1 ∧ t.psg.ncount = 0 ∧
    t.psg.nout = false ∧ t.psg.eperiod = 1 ∧ t.psg.ecount = 0 ∧ t.psg.shape = 0 ∧ t.psg.pos = 0 ∧
    t.psg.hold = true ∧ (∀ e, (s.params.envTable[0]).head? = some e → t.psg.elevel = e) ∧
    t.psg.stick = 0 ∧ t.psg.scount = 0 ∧ t.psg.obuf = [] ∧
    (∀ i : Fin 18, t.sync.regs[i] = Config.drawCrtcReg s.draws i &&& s.params.crtcMask[i]) ∧ t.widthsAgree ∧
    t.sync.crtcSel = Config.drawCrtcSel s.draws ∧ (∀ i : Fin 17, t.pal.pens[i] = Config.drawPen s.draws i) ∧
    t.pal.selPen = Config.drawSelPen s.draws ∧ t.pal.mode = Config.drawMode s.draws ∧
    t.sync.col = 0 ∧ t.sync.line = 0 ∧ t.sync.row = 0 ∧ t.sync.hcount = 0 ∧ t.sync.vcount = 0 ∧
    t.sync.inH = false ∧ t.sync.inV = false ∧
    t.pal.lowerRomEn = true ∧ t.pal.upperRomEn = true ∧ t.pal.icount = 0 ∧ t.pal.vdelay = 0 ∧ t.irq = false ∧
    t.ppi = { latchA := 0, latchB := 0, latchC := 0, dirA := .IN, dirB := .IN, dirCl := .IN, dirCu := .IN,
              modeA := 0, modeB := 0, kbdRow := 0 } ∧
    t.mem.bankCfg = 0 ∧ t.mem.upperRomSel = 0 ∧ t.mem.romImage = s.mem.romImage ∧
    (∀ a, t.mem.ram.read a = none ∧ ramByte t a = Config.drawRamByte s.draws a) ∧ t.draws = s.draws + 1 ∧
    (∀ c, (∀ a, c ≠ .ramByte a) → isUnwritten t c = decide (s.params.resetUnknown = .fault)) ∧
    t.params = s.params ∧ t.trace = s.trace ∧ t.faultMark = none ∧ t.refusalMark = s.refusalMark ∧
    t.pending = s.pending ∧ t.returned = s.returned

/-- R481, R482, R483, R484, R485, R70, R71: the values the spec states for reset, in `State.reset`: all of the
SoundChip and the PPI, the SyncTimer's counters and flags, the ROM enables, the interrupt counters and line, the bank
and slot selections, the trace and the marks. The registers it draws are not spoken of. Model: values drawn at reset
(log 5). -/
def Obligations.ResetStateHoldsStatedValues : Prop :=
  (∀ i : Fin 16, State.reset.psg.regs[i] = 0) ∧ State.reset.psg.psgSel = 0 ∧ State.reset.psg.psgFn = .inactive ∧
  (∀ g ∈ [SoundChip.chA, SoundChip.chB, SoundChip.chC], g State.reset.psg =
    { period := 1, tcount := 0, pol := false, toneEn := true, noiseEn := true, vol := 0, envF := false, acc := 0 }) ∧
  State.reset.psg.ioADirOut = false ∧ State.reset.psg.ioBDirOut = false ∧
  State.reset.psg.rng = 1 ∧ State.reset.psg.nperiod = 1 ∧ State.reset.psg.ncount = 0 ∧ State.reset.psg.nout = false ∧
  State.reset.psg.eperiod = 1 ∧ State.reset.psg.ecount = 0 ∧ State.reset.psg.shape = 0 ∧ State.reset.psg.pos = 0 ∧
  State.reset.psg.hold = true ∧ State.reset.psg.elevel = 15 ∧
  State.reset.psg.stick = 0 ∧ State.reset.psg.scount = 0 ∧ State.reset.psg.obuf = [] ∧
  State.reset.sync.col = 0 ∧ State.reset.sync.line = 0 ∧ State.reset.sync.row = 0 ∧
  State.reset.sync.hcount = 0 ∧ State.reset.sync.vcount = 0 ∧ State.reset.sync.inH = false ∧
  State.reset.sync.inV = false ∧
  State.reset.pal.lowerRomEn = true ∧ State.reset.pal.upperRomEn = true ∧ State.reset.pal.icount = 0 ∧
  State.reset.pal.vdelay = 0 ∧ State.reset.irq = false ∧
  State.reset.ppi = { latchA := 0, latchB := 0, latchC := 0, dirA := .IN, dirB := .IN, dirCl := .IN, dirCu := .IN,
                      modeA := 0, modeB := 0, kbdRow := 0 } ∧
  State.reset.mem.bankCfg = 0 ∧ State.reset.mem.upperRomSel = 0 ∧
  State.reset.trace = [] ∧ State.reset.faultMark = none ∧ State.reset.refusalMark = none

/-- R412, R413: a restore within its bounds writes exactly its record; outside them it faults CONTRACT and writes
nothing. Where a register that bounds a SET_TIMING is unwritten, it faults with that bound or with an unwritten one of
those registers, and writes nothing either. Model: a fault is a next state (log 2), unwritten registers (log 7). -/
def Obligations.RestoresAcceptBoundsOrFault : Prop :=
  ∀ s : State, s.faultMark = none →
    let bounds : List Component :=
      [.crtcReg s.params.crtcIndex.ht, .crtcReg s.params.crtcIndex.mra, .crtcReg s.params.crtcIndex.vt, .hw, .vw]
    (∀ r : TimingRecord,
      let ok := r.col ≤ s.ht ∧ r.line ≤ s.mra ∧ r.row ≤ s.vt ∧ r.hcount ≤ s.sync.hw ∧ r.vcount ≤ s.sync.vw ∧
        (r.inH = true ↔ 0 < r.hcount) ∧ (r.inV = true ↔ 0 < r.vcount)
      ((∀ c ∈ bounds, s.holds c) → ok → exec (.setTiming r) s = .next { s with
        sync := { s.sync with col := r.col, line := r.line, row := r.row, hcount := r.hcount, vcount := r.vcount,
                              inH := r.inH, inV := r.inV } }) ∧
      ((∀ c ∈ bounds, s.holds c) → ¬ ok →
        exec (.setTiming r) s = .next { s with faultMark := some (.contract .setTimingBounds) }) ∧
      (¬ (∀ c ∈ bounds, s.holds c) → ∃ m, exec (.setTiming r) s = .next { s with faultMark := some m } ∧
        ((m = .contract .setTimingBounds ∧ ¬ ok) ∨ ∃ c ∈ bounds, ¬ s.holds c ∧ m = .unwritten c))) ∧
    (∀ r : IrqRecord,
      let ok := r.vdelay ≤ 2 ∧ r.icount ≤ 255 ∧ (0 < r.vdelay ∨ r.icount ≤ 51)
      (ok → exec (.restoreIrqCounters r) s = .next { s with
        pal := { s.pal with icount := r.icount, vdelay := r.vdelay } }) ∧
      (¬ ok → exec (.restoreIrqCounters r) s = .next { s with faultMark := some (.contract .irqCounterBounds) }))

/-- R418: an accepted flush emits HANDOFF with the buffer's length and empties it; a rejected one changes nothing; the
answer is fresh at each flush. Model: draws (log 8), keyboard and sink (log 18). -/
def Obligations.AudioFlushEmptiesOnAcceptance : Prop :=
  ∀ s : State, s.faultMark = none →
    (Config.sinkAccept s.draws = true → exec .audioFlush s = .next { s with
      psg := { s.psg with obuf := [] }, trace := s.trace ++ [.handoff s.psg.obuf.length], draws := s.draws + 1 }) ∧
    (Config.sinkAccept s.draws = false → exec .audioFlush s = .next { s with draws := s.draws + 1 })

/-! ## Steps, faults and refusals -/

/-- R142, R30: when the next pending input is a stimulus that decodes to a well-formed instruction, a step is `exec`
of it on the state with that input taken (log 1). -/
def Obligations.StepRunsDecodedStimulus : Prop :=
  ∀ (s : State) (st : Stimulus) (rest : List Input) (i : Instr), s.pending = .stimulus st :: rest →
    decode s.params st = .ok i → i.wellFormed s.params = true → step s = exec i { s with pending := rest }

/-- The words R143 calls illegal, written on the number of the word. -/
def illegalWord (w : Nat) : Prop :=
  w / 2 ^ 25 = 3 ∨
  (w / 2 ^ 25 = 2 ∧ (w / 2 ^ 12 % 2 ^ 13 ≠ 0 ∨ 10 ≤ w / 2 ^ 8 % 16 ∨
    (w / 2 ^ 8 % 16 ∈ [0, 1, 2, 3, 4, 8, 9] ∧ w % 256 ≠ 0) ∨ (w / 2 ^ 8 % 16 = 7 ∧ w % 256 / 2 ≠ 0))) ∨
  (w / 2 ^ 25 ≤ 1 ∧ w / 2 ^ 24 % 2 = 0 ∧ w % 256 ≠ 0)

/-- R143, R443, R444: a step on an illegal word refuses ILLEGAL_STIMULUS, keeping a first reason, and changes nothing
else; a legal word is not refused so: it decodes. Model: the queue of inputs (log 1), a refusal is a next state (log
3). -/
def Obligations.IllegalWordsAreRefused : Prop :=
  ∀ (s : State) (st : Stimulus) (rest : List Input), s.faultMark = none → s.pending = .stimulus st :: rest →
    (illegalWord st.word.toNat → step s = .next { s with
      pending := rest, refusalMark := some (s.refusalMark.getD .illegalStimulus) }) ∧
    (¬ illegalWord st.word.toNat → ∃ i, decode s.params st = .ok i ∧ step s = exec i { s with pending := rest })

/-- R441, R443, R71, R447: a faulted state is stuck under every stimulus and every step but for the inputs taken;
marks are never cleared, a first refusal is kept; one stimulus never marks both a fault and a new refusal. Model: a
refusal is a next state (log 3), host calls on a faulted state (log 11), the queue of inputs (log 1), a fault is a
next state (log 2), ROM table and host calls (log 10). -/
def Obligations.MarksAreStickyAndFaultIsStuck : Prop :=
  (∀ (i : Instr) (s : State), s.faultMark ≠ none → exec i s = .next s) ∧
  (∀ (c : HostCall) (s : State), s.faultMark ≠ none → runHostCall c s = .next s) ∧
  (∀ s : State, s.faultMark ≠ none → ∃ rest, step s = .next { s with pending := rest }) ∧
  (∀ s : State, ∃ t, step s = .next t ∧
    (∀ r, s.refusalMark = some r → t.refusalMark = some r) ∧
    (s.faultMark = none → t.faultMark ≠ none → t.refusalMark = s.refusalMark))

/-! ## Encoding -/

/-- R130 to R138, R142: for every value of the function codes, a well-formed instruction's stimulus decodes to it, and
what decodes is well-formed and has that word. -/
def Obligations.DecodeAndEncodeAgree : Prop :=
  (∀ (q : Params) (i : Instr), i.wellFormed q = true → decode q (encode i) = .ok i) ∧
  (∀ (q : Params) (st : Stimulus) (i : Instr), decode q st = .ok i →
    i.wellFormed q = true ∧ encodeWord i = st.word)

/-- R141, R142: in the reference profile the decoder and the table of R141 agree on every word: one that decodes lies
in exactly one row, the instruction's; one that does not lies in none. Model: the reference values (log 12). -/
def Obligations.TableRowsMatchDecoder : Prop :=
  ∀ w : StimWord,
    match decode Params.reference (Stimulus.ofWord w) with
    | .ok i => opcodeTable.filter (fun r => r.2.accepts w) = [(i.mnemonic, i.row)]
    | .error _ => opcodeTable.filter (fun r => r.2.accepts w) = []

/-- 95_test_vectors.md 2.1: words written out from the encoding, one of each family. Model: the reference values (log
12). -/
def Obligations.SampleWordsDecode : Prop :=
  decodeTableWord 32 0x17F0003 = some (.palPen 0x7F00 0x03) ∧
  decodeTableWord 32 0x1BC0006 = some (.crtcSelect 0xBC00 0x06) ∧
  decodeTableWord 32 0x17F008D = some (.palModeRom 0x7F00 0x8D) ∧
  decodeTableWord 32 0x0F50000 = some (.ppiBRd 0xF500) ∧
  decodeTableWord 32 0x1F70082 = some (.ppiCtrlMode 0xF700 0x82) ∧
  decodeTableWord 32 0x3000577 = some (.memWrite 0x0005 0x77) ∧
  decodeTableWord 32 0x4000000 = some .clock ∧
  decodeTableWord 32 0x4000701 = some (.setIrqLine true) ∧
  decodeTableWord 32 0x6000000 = none

/-! ## Invariants -/

/-- R37, R39, R41: every step keeps the widths in agreement with the width register, the sync flags with their
countdowns, and the countdowns at most 16. Model: the queue of inputs (log 1), a fault is a next state (log 2). -/
def Obligations.StepKeepsWidthsAndPulses : Prop :=
  ∀ s t : State, s.widthsAgree → s.pulsesAgree → step s = .next t → t.faultMark = none →
    t.widthsAgree ∧ t.pulsesAgree

/-- R261, R48, R56: every step keeps `vdelay` at most 2, `icount` at most 51 while no delay is pending, and the PPI's
modes 0. Model: the queue of inputs (log 1), a fault is a next state (log 2). -/
def Obligations.StepKeepsIrqCountersAndModes : Prop :=
  ∀ s t : State, s.irqCountersInRange → s.ppiModesZero → step s = .next t → t.faultMark = none →
    t.irqCountersInRange ∧ t.ppiModesZero

/-- R64 to R70, R375: under the parameters' constraints every step keeps the SoundChip's derived fields in agreement
with its registers, the envelope's level with its shape's table, the counters and the buffer in range and the noise
register non-zero. Model: the queue of inputs (log 1), a fault is a next state (log 2), the shift register (log 15).
-/
def Obligations.StepKeepsSoundChipConsistent : Prop :=
  ∀ s t : State, s.params.wf = true → s.psg.agrees → s.psg.envelopeAgrees s.params → s.psg.inRange s.params →
    step s = .next t → t.faultMark = none →
    t.psg.agrees ∧ t.psg.envelopeAgrees t.params ∧ t.psg.inRange t.params

/-- R53 and log 6: every step, faulting or not, keeps RAM in its canonical form: addresses strictly rising and below
128 KB. Model: the queue of inputs (log 1), RAM never written (log 6). -/
def Obligations.StepKeepsMemoryCanonical : Prop :=
  ∀ s t : State, s.mem.ram.wf = true → step s = .next t → t.mem.ram.wf = true

/-- The invariants hold at `State.reset`, and the reference profile meets the constraints (R10). Model: the reference
values (log 12), values drawn at reset (log 5), RAM never written (log 6), unwritten registers (log 7). -/
def Obligations.ResetMeetsTheInvariants : Prop :=
  Params.reference.wf = true ∧ State.reset.params = Params.reference ∧
  State.reset.widthsAgree ∧ State.reset.pulsesAgree ∧ State.reset.irqCountersInRange ∧ State.reset.ppiModesZero ∧
  State.reset.psg.agrees ∧ State.reset.psg.envelopeAgrees Params.reference ∧
  (State.reset.psg.stick < 16 ∧ State.reset.psg.scount < Params.reference.sampleDecimation ∧
    State.reset.psg.obuf.length ≤ Params.reference.bufferCapacity ∧ State.reset.psg.rng ≠ 0) ∧
  State.reset.mem.ram.wf = true ∧ State.reset.positionInRange ∧ State.reset.allWritten

/-! ## Rules about the whole machine -/

/-- The instructions that read (R103): the fourteen IO reads, MEM_READ and QUERY_VSYNC. -/
def readMnemonics : List String :=
  ["PAL_RD", "RAMCFG_RD", "CRTC_RD_FN0", "CRTC_RD_FN1", "CRTC_STATUS_RD", "CRTC_READ", "ROMSEL_RD", "PRINTER_RD",
   "PPI_A_RD", "PPI_B_RD", "PPI_C_RD", "PPI_CTRL_RD", "EXP_RD", "UNKNOWN_RD", "MEM_READ", "QUERY_VSYNC"]

/-- R103, R171: a read changes no block state: only the value returned, the count of draws and, for a read the rules
fault, the fault mark differ. Model: a fault is a next state (log 2), draws (log 8), the value returned (log 9). -/
def Obligations.ReadsKeepBlockState : Prop :=
  ∀ (i : Instr) (s : State), i.mnemonic ∈ readMnemonics →
    ∃ v n m, exec i s = .next { s with returned := v, draws := n, faultMark := m } ∧
      (i.mnemonic ≠ "MEM_READ" → i.mnemonic ≠ "CRTC_READ" → m = s.faultMark)

/-- R72: which instructions write each component; no instruction writes a parameter, a ROM image (R54) or the pending
inputs, and the trace only grows (R70). Model: a fault is a next state (log 2), the queue of inputs (log 1), ROM table
and host calls (log 10). -/
def Obligations.ComponentsHaveTheirWriters : Prop :=
  ∀ (i : Instr) (s t : State), exec i s = .next t →
    (t.sync.regs ≠ s.sync.regs ∨ t.sync.hw ≠ s.sync.hw ∨ t.sync.vw ≠ s.sync.vw →
      i.mnemonic ∈ ["CRTC_WRITE", "RESET"]) ∧
    (t.sync.crtcSel ≠ s.sync.crtcSel → i.mnemonic ∈ ["CRTC_SELECT", "RESET"]) ∧
    (t.sync.col ≠ s.sync.col ∨ t.sync.line ≠ s.sync.line ∨ t.sync.row ≠ s.sync.row ∨
      t.sync.hcount ≠ s.sync.hcount ∨ t.sync.vcount ≠ s.sync.vcount ∨ t.sync.inH ≠ s.sync.inH ∨
      t.sync.inV ≠ s.sync.inV → i.mnemonic ∈ ["CLOCK", "SET_TIMING", "RESET"]) ∧
    (t.pal.pens ≠ s.pal.pens ∨ t.pal.selPen ≠ s.pal.selPen → i.mnemonic ∈ ["PAL_PEN", "PAL_COLOUR", "RESET"]) ∧
    (t.pal.mode ≠ s.pal.mode ∨ t.pal.lowerRomEn ≠ s.pal.lowerRomEn ∨ t.pal.upperRomEn ≠ s.pal.upperRomEn →
      i.mnemonic ∈ ["PAL_MODE_ROM", "RESET"]) ∧
    (t.pal.icount ≠ s.pal.icount ∨ t.pal.vdelay ≠ s.pal.vdelay →
      i.mnemonic ∈ ["PAL_MODE_ROM", "CLOCK", "INTACK", "RESTORE_IRQ_COUNTERS", "RESET"]) ∧
    (t.irq ≠ s.irq → i.mnemonic ∈ ["PAL_MODE_ROM", "CLOCK", "INTACK", "SET_IRQ_LINE", "RESET"]) ∧
    (t.mem.bankCfg ≠ s.mem.bankCfg → i.mnemonic ∈ ["PAL_BANK", "RAMCFG_WR", "RESET"]) ∧
    (t.mem.upperRomSel ≠ s.mem.upperRomSel → i.mnemonic ∈ ["ROMSEL_WR", "RESET"]) ∧
    (t.mem.ram ≠ s.mem.ram ∨ t.mem.ramEpoch ≠ s.mem.ramEpoch → i.mnemonic ∈ ["MEM_WRITE", "RESET"]) ∧
    (t.ppi ≠ { s.ppi with kbdRow := t.ppi.kbdRow } →
      i.mnemonic ∈ ["PPI_A_WR", "PPI_B_WR", "PPI_C_WR", "PPI_CTRL_MODE", "PPI_CTRL_BSR", "RESET"]) ∧
    (t.ppi.kbdRow ≠ s.ppi.kbdRow → i.mnemonic ∈ ["PPI_C_WR", "PPI_CTRL_BSR", "RESET"]) ∧
    (t.psg ≠ { s.psg with obuf := t.psg.obuf } →
      i.mnemonic ∈ ["PPI_A_WR", "PPI_C_WR", "PPI_CTRL_BSR", "PSG_HOST_SELECT", "PSG_HOST_WRITE", "CLOCK", "RESET"]) ∧
    (t.psg.obuf ≠ s.psg.obuf → i.mnemonic ∈ ["CLOCK", "AUDIO_FLUSH", "RESET"]) ∧
    t.params = s.params ∧ t.mem.romImage = s.mem.romImage ∧ t.pending = s.pending ∧ s.trace <+: t.trace

/-- R452, R215, R186: one CLOCK emits at most one of HSYNC and VSYNC, at most one IRQ_SET, only after an HSYNC, and
its samples last. Model: a fault is a next state (log 2). -/
def Obligations.ClockEmitsAtMostOneSyncEvent : Prop :=
  ∀ s t : State, exec .clock s = .next t →
    ∃ l, t.trace = s.trace ++ sampleEvents l ∨ t.trace = s.trace ++ [.hsync] ++ sampleEvents l ∨
      t.trace = s.trace ++ [.hsync, .irqSet] ++ sampleEvents l ∨ t.trace = s.trace ++ [.vsync] ++ sampleEvents l

/-- R221: from column, line and row 0, a frame's worth of CLOCKs that raises no fault returns all three to 0, whatever
the sync flags. Model: a fault is a next state (log 2). -/
def Obligations.FramePeriodReturnsToOrigin : Prop :=
  ∀ s : State, s.faultMark = none → s.sync.col = 0 → s.sync.line = 0 → s.sync.row = 0 →
    let t := clocks ((s.ht + 1) * (s.mra + 1) * (s.vt + 1)) s
    t.faultMark = none → t.sync.col = 0 ∧ t.sync.line = 0 ∧ t.sync.row = 0

/-- R380: with a fixed period of at least 1 and the counter at 0, after k tone updates the counter is k mod p and the
polarity has flipped k / p times. -/
def Obligations.TonePolarityFlipsEveryPeriod : Prop :=
  ∀ (c : Channel) (k : Nat), 1 ≤ c.period → c.tcount = 0 →
    Channel.advance^[k] c =
      { c with tcount := k % c.period, pol := c.pol ^^ decide (k / c.period % 2 = 1) }

/-- R388, R342, R386: after a write of shape 0 to 3 the level falls 15, 14, …, 0 and stays 0; after a write of shape
14 with the reference table it runs 0, 1, …, 15, 15, …, 0 and repeats: k steps of the envelope at period 1. Model: the
reference table (log 12). -/
def Obligations.EnvelopeShapesFallHoldAndRepeat : Prop :=
  ∀ (q : Params) (c : SoundChip) (v : Byte) (k : Nat), q.wf = true →
    let d : SoundChip := { c.writeReg q 13 v with eperiod := 1 }
    let e := ((fun x : SoundChip => x.updateEnvelope q)^[k] d).elevel.toNat
    ((v &&& q.psgMask[13]).toNat ≤ 3 → e = 15 - k) ∧
    ((v &&& q.psgMask[13]).toNat = 14 → q.envTable[14] = risingLevels ++ fallingLevels →
      e = if k % 32 < 16 then k % 32 else 31 - k % 32)
end

