-- ==== Sys2Proof/Laws/State.lean ====
section
/-! SUPPORT. One lemma per field per named update of the state, each true by rfl. -/

namespace Sys2Proof.Machine

/-! `setSync`. -/

@[simp] theorem State.setSync_params (s : State) (x : SyncTimer) : (s.setSync x).params = s.params := rfl
@[simp] theorem State.setSync_sync (s : State) (x : SyncTimer) : (s.setSync x).sync = x := rfl
@[simp] theorem State.setSync_pal (s : State) (x : SyncTimer) : (s.setSync x).pal = s.pal := rfl
@[simp] theorem State.setSync_irq (s : State) (x : SyncTimer) : (s.setSync x).irq = s.irq := rfl
@[simp] theorem State.setSync_mem (s : State) (x : SyncTimer) : (s.setSync x).mem = s.mem := rfl
@[simp] theorem State.setSync_ppi (s : State) (x : SyncTimer) : (s.setSync x).ppi = s.ppi := rfl
@[simp] theorem State.setSync_psg (s : State) (x : SyncTimer) : (s.setSync x).psg = s.psg := rfl
@[simp] theorem State.setSync_trace (s : State) (x : SyncTimer) : (s.setSync x).trace = s.trace := rfl
@[simp] theorem State.setSync_faultMark (s : State) (x : SyncTimer) : (s.setSync x).faultMark = s.faultMark := rfl
@[simp] theorem State.setSync_refusalMark (s : State) (x : SyncTimer) : (s.setSync x).refusalMark = s.refusalMark := rfl
@[simp] theorem State.setSync_unwritten (s : State) (x : SyncTimer) : (s.setSync x).unwritten = s.unwritten := rfl
@[simp] theorem State.setSync_draws (s : State) (x : SyncTimer) : (s.setSync x).draws = s.draws := rfl
@[simp] theorem State.setSync_returned (s : State) (x : SyncTimer) : (s.setSync x).returned = s.returned := rfl
@[simp] theorem State.setSync_pending (s : State) (x : SyncTimer) : (s.setSync x).pending = s.pending := rfl

/-! `setPal`. -/

@[simp] theorem State.setPal_params (s : State) (x : Palette) : (s.setPal x).params = s.params := rfl
@[simp] theorem State.setPal_sync (s : State) (x : Palette) : (s.setPal x).sync = s.sync := rfl
@[simp] theorem State.setPal_pal (s : State) (x : Palette) : (s.setPal x).pal = x := rfl
@[simp] theorem State.setPal_irq (s : State) (x : Palette) : (s.setPal x).irq = s.irq := rfl
@[simp] theorem State.setPal_mem (s : State) (x : Palette) : (s.setPal x).mem = s.mem := rfl
@[simp] theorem State.setPal_ppi (s : State) (x : Palette) : (s.setPal x).ppi = s.ppi := rfl
@[simp] theorem State.setPal_psg (s : State) (x : Palette) : (s.setPal x).psg = s.psg := rfl
@[simp] theorem State.setPal_trace (s : State) (x : Palette) : (s.setPal x).trace = s.trace := rfl
@[simp] theorem State.setPal_faultMark (s : State) (x : Palette) : (s.setPal x).faultMark = s.faultMark := rfl
@[simp] theorem State.setPal_refusalMark (s : State) (x : Palette) : (s.setPal x).refusalMark = s.refusalMark := rfl
@[simp] theorem State.setPal_unwritten (s : State) (x : Palette) : (s.setPal x).unwritten = s.unwritten := rfl
@[simp] theorem State.setPal_draws (s : State) (x : Palette) : (s.setPal x).draws = s.draws := rfl
@[simp] theorem State.setPal_returned (s : State) (x : Palette) : (s.setPal x).returned = s.returned := rfl
@[simp] theorem State.setPal_pending (s : State) (x : Palette) : (s.setPal x).pending = s.pending := rfl

/-! `setIrq`. -/

@[simp] theorem State.setIrq_params (s : State) (x : Bool) : (s.setIrq x).params = s.params := rfl
@[simp] theorem State.setIrq_sync (s : State) (x : Bool) : (s.setIrq x).sync = s.sync := rfl
@[simp] theorem State.setIrq_pal (s : State) (x : Bool) : (s.setIrq x).pal = s.pal := rfl
@[simp] theorem State.setIrq_irq (s : State) (x : Bool) : (s.setIrq x).irq = x := rfl
@[simp] theorem State.setIrq_mem (s : State) (x : Bool) : (s.setIrq x).mem = s.mem := rfl
@[simp] theorem State.setIrq_ppi (s : State) (x : Bool) : (s.setIrq x).ppi = s.ppi := rfl
@[simp] theorem State.setIrq_psg (s : State) (x : Bool) : (s.setIrq x).psg = s.psg := rfl
@[simp] theorem State.setIrq_trace (s : State) (x : Bool) : (s.setIrq x).trace = s.trace := rfl
@[simp] theorem State.setIrq_faultMark (s : State) (x : Bool) : (s.setIrq x).faultMark = s.faultMark := rfl
@[simp] theorem State.setIrq_refusalMark (s : State) (x : Bool) : (s.setIrq x).refusalMark = s.refusalMark := rfl
@[simp] theorem State.setIrq_unwritten (s : State) (x : Bool) : (s.setIrq x).unwritten = s.unwritten := rfl
@[simp] theorem State.setIrq_draws (s : State) (x : Bool) : (s.setIrq x).draws = s.draws := rfl
@[simp] theorem State.setIrq_returned (s : State) (x : Bool) : (s.setIrq x).returned = s.returned := rfl
@[simp] theorem State.setIrq_pending (s : State) (x : Bool) : (s.setIrq x).pending = s.pending := rfl

/-! `setMem`. -/

@[simp] theorem State.setMem_params (s : State) (x : MemoryUnit) : (s.setMem x).params = s.params := rfl
@[simp] theorem State.setMem_sync (s : State) (x : MemoryUnit) : (s.setMem x).sync = s.sync := rfl
@[simp] theorem State.setMem_pal (s : State) (x : MemoryUnit) : (s.setMem x).pal = s.pal := rfl
@[simp] theorem State.setMem_irq (s : State) (x : MemoryUnit) : (s.setMem x).irq = s.irq := rfl
@[simp] theorem State.setMem_mem (s : State) (x : MemoryUnit) : (s.setMem x).mem = x := rfl
@[simp] theorem State.setMem_ppi (s : State) (x : MemoryUnit) : (s.setMem x).ppi = s.ppi := rfl
@[simp] theorem State.setMem_psg (s : State) (x : MemoryUnit) : (s.setMem x).psg = s.psg := rfl
@[simp] theorem State.setMem_trace (s : State) (x : MemoryUnit) : (s.setMem x).trace = s.trace := rfl
@[simp] theorem State.setMem_faultMark (s : State) (x : MemoryUnit) : (s.setMem x).faultMark = s.faultMark := rfl
@[simp] theorem State.setMem_refusalMark (s : State) (x : MemoryUnit) : (s.setMem x).refusalMark = s.refusalMark := rfl
@[simp] theorem State.setMem_unwritten (s : State) (x : MemoryUnit) : (s.setMem x).unwritten = s.unwritten := rfl
@[simp] theorem State.setMem_draws (s : State) (x : MemoryUnit) : (s.setMem x).draws = s.draws := rfl
@[simp] theorem State.setMem_returned (s : State) (x : MemoryUnit) : (s.setMem x).returned = s.returned := rfl
@[simp] theorem State.setMem_pending (s : State) (x : MemoryUnit) : (s.setMem x).pending = s.pending := rfl

/-! `setPpi`. -/

@[simp] theorem State.setPpi_params (s : State) (x : Ppi) : (s.setPpi x).params = s.params := rfl
@[simp] theorem State.setPpi_sync (s : State) (x : Ppi) : (s.setPpi x).sync = s.sync := rfl
@[simp] theorem State.setPpi_pal (s : State) (x : Ppi) : (s.setPpi x).pal = s.pal := rfl
@[simp] theorem State.setPpi_irq (s : State) (x : Ppi) : (s.setPpi x).irq = s.irq := rfl
@[simp] theorem State.setPpi_mem (s : State) (x : Ppi) : (s.setPpi x).mem = s.mem := rfl
@[simp] theorem State.setPpi_ppi (s : State) (x : Ppi) : (s.setPpi x).ppi = x := rfl
@[simp] theorem State.setPpi_psg (s : State) (x : Ppi) : (s.setPpi x).psg = s.psg := rfl
@[simp] theorem State.setPpi_trace (s : State) (x : Ppi) : (s.setPpi x).trace = s.trace := rfl
@[simp] theorem State.setPpi_faultMark (s : State) (x : Ppi) : (s.setPpi x).faultMark = s.faultMark := rfl
@[simp] theorem State.setPpi_refusalMark (s : State) (x : Ppi) : (s.setPpi x).refusalMark = s.refusalMark := rfl
@[simp] theorem State.setPpi_unwritten (s : State) (x : Ppi) : (s.setPpi x).unwritten = s.unwritten := rfl
@[simp] theorem State.setPpi_draws (s : State) (x : Ppi) : (s.setPpi x).draws = s.draws := rfl
@[simp] theorem State.setPpi_returned (s : State) (x : Ppi) : (s.setPpi x).returned = s.returned := rfl
@[simp] theorem State.setPpi_pending (s : State) (x : Ppi) : (s.setPpi x).pending = s.pending := rfl

/-! `setPsg`. -/

@[simp] theorem State.setPsg_params (s : State) (x : SoundChip) : (s.setPsg x).params = s.params := rfl
@[simp] theorem State.setPsg_sync (s : State) (x : SoundChip) : (s.setPsg x).sync = s.sync := rfl
@[simp] theorem State.setPsg_pal (s : State) (x : SoundChip) : (s.setPsg x).pal = s.pal := rfl
@[simp] theorem State.setPsg_irq (s : State) (x : SoundChip) : (s.setPsg x).irq = s.irq := rfl
@[simp] theorem State.setPsg_mem (s : State) (x : SoundChip) : (s.setPsg x).mem = s.mem := rfl
@[simp] theorem State.setPsg_ppi (s : State) (x : SoundChip) : (s.setPsg x).ppi = s.ppi := rfl
@[simp] theorem State.setPsg_psg (s : State) (x : SoundChip) : (s.setPsg x).psg = x := rfl
@[simp] theorem State.setPsg_trace (s : State) (x : SoundChip) : (s.setPsg x).trace = s.trace := rfl
@[simp] theorem State.setPsg_faultMark (s : State) (x : SoundChip) : (s.setPsg x).faultMark = s.faultMark := rfl
@[simp] theorem State.setPsg_refusalMark (s : State) (x : SoundChip) : (s.setPsg x).refusalMark = s.refusalMark := rfl
@[simp] theorem State.setPsg_unwritten (s : State) (x : SoundChip) : (s.setPsg x).unwritten = s.unwritten := rfl
@[simp] theorem State.setPsg_draws (s : State) (x : SoundChip) : (s.setPsg x).draws = s.draws := rfl
@[simp] theorem State.setPsg_returned (s : State) (x : SoundChip) : (s.setPsg x).returned = s.returned := rfl
@[simp] theorem State.setPsg_pending (s : State) (x : SoundChip) : (s.setPsg x).pending = s.pending := rfl

/-! `setUnwritten`. -/

@[simp] theorem State.setUnwritten_params (s : State) (x : List Component) : (s.setUnwritten x).params = s.params := rfl
@[simp] theorem State.setUnwritten_sync (s : State) (x : List Component) : (s.setUnwritten x).sync = s.sync := rfl
@[simp] theorem State.setUnwritten_pal (s : State) (x : List Component) : (s.setUnwritten x).pal = s.pal := rfl
@[simp] theorem State.setUnwritten_irq (s : State) (x : List Component) : (s.setUnwritten x).irq = s.irq := rfl
@[simp] theorem State.setUnwritten_mem (s : State) (x : List Component) : (s.setUnwritten x).mem = s.mem := rfl
@[simp] theorem State.setUnwritten_ppi (s : State) (x : List Component) : (s.setUnwritten x).ppi = s.ppi := rfl
@[simp] theorem State.setUnwritten_psg (s : State) (x : List Component) : (s.setUnwritten x).psg = s.psg := rfl
@[simp] theorem State.setUnwritten_trace (s : State) (x : List Component) : (s.setUnwritten x).trace = s.trace := rfl
@[simp] theorem State.setUnwritten_faultMark (s : State) (x : List Component) : (s.setUnwritten x).faultMark = s.faultMark := rfl
@[simp] theorem State.setUnwritten_refusalMark (s : State) (x : List Component) : (s.setUnwritten x).refusalMark = s.refusalMark := rfl
@[simp] theorem State.setUnwritten_unwritten (s : State) (x : List Component) : (s.setUnwritten x).unwritten = x := rfl
@[simp] theorem State.setUnwritten_draws (s : State) (x : List Component) : (s.setUnwritten x).draws = s.draws := rfl
@[simp] theorem State.setUnwritten_returned (s : State) (x : List Component) : (s.setUnwritten x).returned = s.returned := rfl
@[simp] theorem State.setUnwritten_pending (s : State) (x : List Component) : (s.setUnwritten x).pending = s.pending := rfl

/-! `setPending`. -/

@[simp] theorem State.setPending_params (s : State) (x : List Input) : (s.setPending x).params = s.params := rfl
@[simp] theorem State.setPending_sync (s : State) (x : List Input) : (s.setPending x).sync = s.sync := rfl
@[simp] theorem State.setPending_pal (s : State) (x : List Input) : (s.setPending x).pal = s.pal := rfl
@[simp] theorem State.setPending_irq (s : State) (x : List Input) : (s.setPending x).irq = s.irq := rfl
@[simp] theorem State.setPending_mem (s : State) (x : List Input) : (s.setPending x).mem = s.mem := rfl
@[simp] theorem State.setPending_ppi (s : State) (x : List Input) : (s.setPending x).ppi = s.ppi := rfl
@[simp] theorem State.setPending_psg (s : State) (x : List Input) : (s.setPending x).psg = s.psg := rfl
@[simp] theorem State.setPending_trace (s : State) (x : List Input) : (s.setPending x).trace = s.trace := rfl
@[simp] theorem State.setPending_faultMark (s : State) (x : List Input) : (s.setPending x).faultMark = s.faultMark := rfl
@[simp] theorem State.setPending_refusalMark (s : State) (x : List Input) : (s.setPending x).refusalMark = s.refusalMark := rfl
@[simp] theorem State.setPending_unwritten (s : State) (x : List Input) : (s.setPending x).unwritten = s.unwritten := rfl
@[simp] theorem State.setPending_draws (s : State) (x : List Input) : (s.setPending x).draws = s.draws := rfl
@[simp] theorem State.setPending_returned (s : State) (x : List Input) : (s.setPending x).returned = s.returned := rfl
@[simp] theorem State.setPending_pending (s : State) (x : List Input) : (s.setPending x).pending = x := rfl

/-! `emit`. -/

@[simp] theorem State.emit_params (s : State) (e : Event) : (s.emit e).params = s.params := rfl
@[simp] theorem State.emit_sync (s : State) (e : Event) : (s.emit e).sync = s.sync := rfl
@[simp] theorem State.emit_pal (s : State) (e : Event) : (s.emit e).pal = s.pal := rfl
@[simp] theorem State.emit_irq (s : State) (e : Event) : (s.emit e).irq = s.irq := rfl
@[simp] theorem State.emit_mem (s : State) (e : Event) : (s.emit e).mem = s.mem := rfl
@[simp] theorem State.emit_ppi (s : State) (e : Event) : (s.emit e).ppi = s.ppi := rfl
@[simp] theorem State.emit_psg (s : State) (e : Event) : (s.emit e).psg = s.psg := rfl
@[simp] theorem State.emit_trace (s : State) (e : Event) : (s.emit e).trace = s.trace ++ [e] := rfl
@[simp] theorem State.emit_faultMark (s : State) (e : Event) : (s.emit e).faultMark = s.faultMark := rfl
@[simp] theorem State.emit_refusalMark (s : State) (e : Event) : (s.emit e).refusalMark = s.refusalMark := rfl
@[simp] theorem State.emit_unwritten (s : State) (e : Event) : (s.emit e).unwritten = s.unwritten := rfl
@[simp] theorem State.emit_draws (s : State) (e : Event) : (s.emit e).draws = s.draws := rfl
@[simp] theorem State.emit_returned (s : State) (e : Event) : (s.emit e).returned = s.returned := rfl
@[simp] theorem State.emit_pending (s : State) (e : Event) : (s.emit e).pending = s.pending := rfl

/-! `give`. -/

@[simp] theorem State.give_params (s : State) (v : Returned) : (s.give v).params = s.params := rfl
@[simp] theorem State.give_sync (s : State) (v : Returned) : (s.give v).sync = s.sync := rfl
@[simp] theorem State.give_pal (s : State) (v : Returned) : (s.give v).pal = s.pal := rfl
@[simp] theorem State.give_irq (s : State) (v : Returned) : (s.give v).irq = s.irq := rfl
@[simp] theorem State.give_mem (s : State) (v : Returned) : (s.give v).mem = s.mem := rfl
@[simp] theorem State.give_ppi (s : State) (v : Returned) : (s.give v).ppi = s.ppi := rfl
@[simp] theorem State.give_psg (s : State) (v : Returned) : (s.give v).psg = s.psg := rfl
@[simp] theorem State.give_trace (s : State) (v : Returned) : (s.give v).trace = s.trace := rfl
@[simp] theorem State.give_faultMark (s : State) (v : Returned) : (s.give v).faultMark = s.faultMark := rfl
@[simp] theorem State.give_refusalMark (s : State) (v : Returned) : (s.give v).refusalMark = s.refusalMark := rfl
@[simp] theorem State.give_unwritten (s : State) (v : Returned) : (s.give v).unwritten = s.unwritten := rfl
@[simp] theorem State.give_draws (s : State) (v : Returned) : (s.give v).draws = s.draws := rfl
@[simp] theorem State.give_returned (s : State) (v : Returned) : (s.give v).returned = v := rfl
@[simp] theorem State.give_pending (s : State) (v : Returned) : (s.give v).pending = s.pending := rfl

/-! `drawn`. -/

@[simp] theorem State.drawn_params (s : State) : (s.drawn).params = s.params := rfl
@[simp] theorem State.drawn_sync (s : State) : (s.drawn).sync = s.sync := rfl
@[simp] theorem State.drawn_pal (s : State) : (s.drawn).pal = s.pal := rfl
@[simp] theorem State.drawn_irq (s : State) : (s.drawn).irq = s.irq := rfl
@[simp] theorem State.drawn_mem (s : State) : (s.drawn).mem = s.mem := rfl
@[simp] theorem State.drawn_ppi (s : State) : (s.drawn).ppi = s.ppi := rfl
@[simp] theorem State.drawn_psg (s : State) : (s.drawn).psg = s.psg := rfl
@[simp] theorem State.drawn_trace (s : State) : (s.drawn).trace = s.trace := rfl
@[simp] theorem State.drawn_faultMark (s : State) : (s.drawn).faultMark = s.faultMark := rfl
@[simp] theorem State.drawn_refusalMark (s : State) : (s.drawn).refusalMark = s.refusalMark := rfl
@[simp] theorem State.drawn_unwritten (s : State) : (s.drawn).unwritten = s.unwritten := rfl
@[simp] theorem State.drawn_draws (s : State) : (s.drawn).draws = s.draws + 1 := rfl
@[simp] theorem State.drawn_returned (s : State) : (s.drawn).returned = s.returned := rfl
@[simp] theorem State.drawn_pending (s : State) : (s.drawn).pending = s.pending := rfl

/-! `markWritten`. -/

@[simp] theorem State.markWritten_params (s : State) (c : Component) : (s.markWritten c).params = s.params := rfl
@[simp] theorem State.markWritten_sync (s : State) (c : Component) : (s.markWritten c).sync = s.sync := rfl
@[simp] theorem State.markWritten_pal (s : State) (c : Component) : (s.markWritten c).pal = s.pal := rfl
@[simp] theorem State.markWritten_irq (s : State) (c : Component) : (s.markWritten c).irq = s.irq := rfl
@[simp] theorem State.markWritten_mem (s : State) (c : Component) : (s.markWritten c).mem = s.mem := rfl
@[simp] theorem State.markWritten_ppi (s : State) (c : Component) : (s.markWritten c).ppi = s.ppi := rfl
@[simp] theorem State.markWritten_psg (s : State) (c : Component) : (s.markWritten c).psg = s.psg := rfl
@[simp] theorem State.markWritten_trace (s : State) (c : Component) : (s.markWritten c).trace = s.trace := rfl
@[simp] theorem State.markWritten_faultMark (s : State) (c : Component) : (s.markWritten c).faultMark = s.faultMark := rfl
@[simp] theorem State.markWritten_refusalMark (s : State) (c : Component) : (s.markWritten c).refusalMark = s.refusalMark := rfl
@[simp] theorem State.markWritten_unwritten (s : State) (c : Component) : (s.markWritten c).unwritten = s.unwritten.filter (fun x => x != c) := rfl
@[simp] theorem State.markWritten_draws (s : State) (c : Component) : (s.markWritten c).draws = s.draws := rfl
@[simp] theorem State.markWritten_returned (s : State) (c : Component) : (s.markWritten c).returned = s.returned := rfl
@[simp] theorem State.markWritten_pending (s : State) (c : Component) : (s.markWritten c).pending = s.pending := rfl

/-! `raiseFault`. -/

@[simp] theorem State.raiseFault_params (s : State) (f : Fault) : (s.raiseFault f).params = s.params := rfl
@[simp] theorem State.raiseFault_sync (s : State) (f : Fault) : (s.raiseFault f).sync = s.sync := rfl
@[simp] theorem State.raiseFault_pal (s : State) (f : Fault) : (s.raiseFault f).pal = s.pal := rfl
@[simp] theorem State.raiseFault_irq (s : State) (f : Fault) : (s.raiseFault f).irq = s.irq := rfl
@[simp] theorem State.raiseFault_mem (s : State) (f : Fault) : (s.raiseFault f).mem = s.mem := rfl
@[simp] theorem State.raiseFault_ppi (s : State) (f : Fault) : (s.raiseFault f).ppi = s.ppi := rfl
@[simp] theorem State.raiseFault_psg (s : State) (f : Fault) : (s.raiseFault f).psg = s.psg := rfl
@[simp] theorem State.raiseFault_trace (s : State) (f : Fault) : (s.raiseFault f).trace = s.trace := rfl
@[simp] theorem State.raiseFault_faultMark (s : State) (f : Fault) : (s.raiseFault f).faultMark = some f := rfl
@[simp] theorem State.raiseFault_refusalMark (s : State) (f : Fault) : (s.raiseFault f).refusalMark = s.refusalMark := rfl
@[simp] theorem State.raiseFault_unwritten (s : State) (f : Fault) : (s.raiseFault f).unwritten = s.unwritten := rfl
@[simp] theorem State.raiseFault_draws (s : State) (f : Fault) : (s.raiseFault f).draws = s.draws := rfl
@[simp] theorem State.raiseFault_returned (s : State) (f : Fault) : (s.raiseFault f).returned = s.returned := rfl
@[simp] theorem State.raiseFault_pending (s : State) (f : Fault) : (s.raiseFault f).pending = s.pending := rfl

/-! `refuse`. -/

@[simp] theorem State.refuse_params (s : State) (r : Refusal) : (s.refuse r).params = s.params := rfl
@[simp] theorem State.refuse_sync (s : State) (r : Refusal) : (s.refuse r).sync = s.sync := rfl
@[simp] theorem State.refuse_pal (s : State) (r : Refusal) : (s.refuse r).pal = s.pal := rfl
@[simp] theorem State.refuse_irq (s : State) (r : Refusal) : (s.refuse r).irq = s.irq := rfl
@[simp] theorem State.refuse_mem (s : State) (r : Refusal) : (s.refuse r).mem = s.mem := rfl
@[simp] theorem State.refuse_ppi (s : State) (r : Refusal) : (s.refuse r).ppi = s.ppi := rfl
@[simp] theorem State.refuse_psg (s : State) (r : Refusal) : (s.refuse r).psg = s.psg := rfl
@[simp] theorem State.refuse_trace (s : State) (r : Refusal) : (s.refuse r).trace = s.trace := rfl
@[simp] theorem State.refuse_faultMark (s : State) (r : Refusal) : (s.refuse r).faultMark = s.faultMark := rfl
@[simp] theorem State.refuse_refusalMark (s : State) (r : Refusal) : (s.refuse r).refusalMark = some (s.refusalMark.getD r) := rfl
@[simp] theorem State.refuse_unwritten (s : State) (r : Refusal) : (s.refuse r).unwritten = s.unwritten := rfl
@[simp] theorem State.refuse_draws (s : State) (r : Refusal) : (s.refuse r).draws = s.draws := rfl
@[simp] theorem State.refuse_returned (s : State) (r : Refusal) : (s.refuse r).returned = s.returned := rfl
@[simp] theorem State.refuse_pending (s : State) (r : Refusal) : (s.refuse r).pending = s.pending := rfl

/-! Derived reads under updates that leave the SyncTimer and the parameters alone. -/

@[simp] theorem State.setSync_crtc (s : State) (x : SyncTimer) (i : Fin 18) : (s.setSync x).crtc i = x.regs[i] := rfl

@[simp] theorem State.setPal_crtc (s : State) (x : Palette) (i : Fin 18) : (s.setPal x).crtc i = s.crtc i := rfl
@[simp] theorem State.setPal_ht (s : State) (x : Palette) : (s.setPal x).ht = s.ht := rfl
@[simp] theorem State.setPal_hsp (s : State) (x : Palette) : (s.setPal x).hsp = s.hsp := rfl
@[simp] theorem State.setPal_vt (s : State) (x : Palette) : (s.setPal x).vt = s.vt := rfl
@[simp] theorem State.setPal_vsp (s : State) (x : Palette) : (s.setPal x).vsp = s.vsp := rfl
@[simp] theorem State.setPal_mra (s : State) (x : Palette) : (s.setPal x).mra = s.mra := rfl
@[simp] theorem State.setIrq_crtc (s : State) (x : Bool) (i : Fin 18) : (s.setIrq x).crtc i = s.crtc i := rfl
@[simp] theorem State.setIrq_ht (s : State) (x : Bool) : (s.setIrq x).ht = s.ht := rfl
@[simp] theorem State.setIrq_hsp (s : State) (x : Bool) : (s.setIrq x).hsp = s.hsp := rfl
@[simp] theorem State.setIrq_vt (s : State) (x : Bool) : (s.setIrq x).vt = s.vt := rfl
@[simp] theorem State.setIrq_vsp (s : State) (x : Bool) : (s.setIrq x).vsp = s.vsp := rfl
@[simp] theorem State.setIrq_mra (s : State) (x : Bool) : (s.setIrq x).mra = s.mra := rfl
@[simp] theorem State.setMem_crtc (s : State) (x : MemoryUnit) (i : Fin 18) : (s.setMem x).crtc i = s.crtc i := rfl
@[simp] theorem State.setMem_ht (s : State) (x : MemoryUnit) : (s.setMem x).ht = s.ht := rfl
@[simp] theorem State.setMem_hsp (s : State) (x : MemoryUnit) : (s.setMem x).hsp = s.hsp := rfl
@[simp] theorem State.setMem_vt (s : State) (x : MemoryUnit) : (s.setMem x).vt = s.vt := rfl
@[simp] theorem State.setMem_vsp (s : State) (x : MemoryUnit) : (s.setMem x).vsp = s.vsp := rfl
@[simp] theorem State.setMem_mra (s : State) (x : MemoryUnit) : (s.setMem x).mra = s.mra := rfl
@[simp] theorem State.setPpi_crtc (s : State) (x : Ppi) (i : Fin 18) : (s.setPpi x).crtc i = s.crtc i := rfl
@[simp] theorem State.setPpi_ht (s : State) (x : Ppi) : (s.setPpi x).ht = s.ht := rfl
@[simp] theorem State.setPpi_hsp (s : State) (x : Ppi) : (s.setPpi x).hsp = s.hsp := rfl
@[simp] theorem State.setPpi_vt (s : State) (x : Ppi) : (s.setPpi x).vt = s.vt := rfl
@[simp] theorem State.setPpi_vsp (s : State) (x : Ppi) : (s.setPpi x).vsp = s.vsp := rfl
@[simp] theorem State.setPpi_mra (s : State) (x : Ppi) : (s.setPpi x).mra = s.mra := rfl
@[simp] theorem State.setPsg_crtc (s : State) (x : SoundChip) (i : Fin 18) : (s.setPsg x).crtc i = s.crtc i := rfl
@[simp] theorem State.setPsg_ht (s : State) (x : SoundChip) : (s.setPsg x).ht = s.ht := rfl
@[simp] theorem State.setPsg_hsp (s : State) (x : SoundChip) : (s.setPsg x).hsp = s.hsp := rfl
@[simp] theorem State.setPsg_vt (s : State) (x : SoundChip) : (s.setPsg x).vt = s.vt := rfl
@[simp] theorem State.setPsg_vsp (s : State) (x : SoundChip) : (s.setPsg x).vsp = s.vsp := rfl
@[simp] theorem State.setPsg_mra (s : State) (x : SoundChip) : (s.setPsg x).mra = s.mra := rfl
@[simp] theorem State.setUnwritten_crtc (s : State) (x : List Component) (i : Fin 18) : (s.setUnwritten x).crtc i = s.crtc i := rfl
@[simp] theorem State.setUnwritten_ht (s : State) (x : List Component) : (s.setUnwritten x).ht = s.ht := rfl
@[simp] theorem State.setUnwritten_hsp (s : State) (x : List Component) : (s.setUnwritten x).hsp = s.hsp := rfl
@[simp] theorem State.setUnwritten_vt (s : State) (x : List Component) : (s.setUnwritten x).vt = s.vt := rfl
@[simp] theorem State.setUnwritten_vsp (s : State) (x : List Component) : (s.setUnwritten x).vsp = s.vsp := rfl
@[simp] theorem State.setUnwritten_mra (s : State) (x : List Component) : (s.setUnwritten x).mra = s.mra := rfl
@[simp] theorem State.setPending_crtc (s : State) (x : List Input) (i : Fin 18) : (s.setPending x).crtc i = s.crtc i := rfl
@[simp] theorem State.setPending_ht (s : State) (x : List Input) : (s.setPending x).ht = s.ht := rfl
@[simp] theorem State.setPending_hsp (s : State) (x : List Input) : (s.setPending x).hsp = s.hsp := rfl
@[simp] theorem State.setPending_vt (s : State) (x : List Input) : (s.setPending x).vt = s.vt := rfl
@[simp] theorem State.setPending_vsp (s : State) (x : List Input) : (s.setPending x).vsp = s.vsp := rfl
@[simp] theorem State.setPending_mra (s : State) (x : List Input) : (s.setPending x).mra = s.mra := rfl
@[simp] theorem State.emit_crtc (s : State) (e : Event) (i : Fin 18) : (s.emit e).crtc i = s.crtc i := rfl
@[simp] theorem State.emit_ht (s : State) (e : Event) : (s.emit e).ht = s.ht := rfl
@[simp] theorem State.emit_hsp (s : State) (e : Event) : (s.emit e).hsp = s.hsp := rfl
@[simp] theorem State.emit_vt (s : State) (e : Event) : (s.emit e).vt = s.vt := rfl
@[simp] theorem State.emit_vsp (s : State) (e : Event) : (s.emit e).vsp = s.vsp := rfl
@[simp] theorem State.emit_mra (s : State) (e : Event) : (s.emit e).mra = s.mra := rfl
@[simp] theorem State.give_crtc (s : State) (v : Returned) (i : Fin 18) : (s.give v).crtc i = s.crtc i := rfl
@[simp] theorem State.give_ht (s : State) (v : Returned) : (s.give v).ht = s.ht := rfl
@[simp] theorem State.give_hsp (s : State) (v : Returned) : (s.give v).hsp = s.hsp := rfl
@[simp] theorem State.give_vt (s : State) (v : Returned) : (s.give v).vt = s.vt := rfl
@[simp] theorem State.give_vsp (s : State) (v : Returned) : (s.give v).vsp = s.vsp := rfl
@[simp] theorem State.give_mra (s : State) (v : Returned) : (s.give v).mra = s.mra := rfl
@[simp] theorem State.drawn_crtc (s : State) (i : Fin 18) : (s.drawn).crtc i = s.crtc i := rfl
@[simp] theorem State.drawn_ht (s : State) : (s.drawn).ht = s.ht := rfl
@[simp] theorem State.drawn_hsp (s : State) : (s.drawn).hsp = s.hsp := rfl
@[simp] theorem State.drawn_vt (s : State) : (s.drawn).vt = s.vt := rfl
@[simp] theorem State.drawn_vsp (s : State) : (s.drawn).vsp = s.vsp := rfl
@[simp] theorem State.drawn_mra (s : State) : (s.drawn).mra = s.mra := rfl
@[simp] theorem State.markWritten_crtc (s : State) (c : Component) (i : Fin 18) : (s.markWritten c).crtc i = s.crtc i := rfl
@[simp] theorem State.markWritten_ht (s : State) (c : Component) : (s.markWritten c).ht = s.ht := rfl
@[simp] theorem State.markWritten_hsp (s : State) (c : Component) : (s.markWritten c).hsp = s.hsp := rfl
@[simp] theorem State.markWritten_vt (s : State) (c : Component) : (s.markWritten c).vt = s.vt := rfl
@[simp] theorem State.markWritten_vsp (s : State) (c : Component) : (s.markWritten c).vsp = s.vsp := rfl
@[simp] theorem State.markWritten_mra (s : State) (c : Component) : (s.markWritten c).mra = s.mra := rfl
@[simp] theorem State.raiseFault_crtc (s : State) (f : Fault) (i : Fin 18) : (s.raiseFault f).crtc i = s.crtc i := rfl
@[simp] theorem State.raiseFault_ht (s : State) (f : Fault) : (s.raiseFault f).ht = s.ht := rfl
@[simp] theorem State.raiseFault_hsp (s : State) (f : Fault) : (s.raiseFault f).hsp = s.hsp := rfl
@[simp] theorem State.raiseFault_vt (s : State) (f : Fault) : (s.raiseFault f).vt = s.vt := rfl
@[simp] theorem State.raiseFault_vsp (s : State) (f : Fault) : (s.raiseFault f).vsp = s.vsp := rfl
@[simp] theorem State.raiseFault_mra (s : State) (f : Fault) : (s.raiseFault f).mra = s.mra := rfl
@[simp] theorem State.refuse_crtc (s : State) (r : Refusal) (i : Fin 18) : (s.refuse r).crtc i = s.crtc i := rfl
@[simp] theorem State.refuse_ht (s : State) (r : Refusal) : (s.refuse r).ht = s.ht := rfl
@[simp] theorem State.refuse_hsp (s : State) (r : Refusal) : (s.refuse r).hsp = s.hsp := rfl
@[simp] theorem State.refuse_vt (s : State) (r : Refusal) : (s.refuse r).vt = s.vt := rfl
@[simp] theorem State.refuse_vsp (s : State) (r : Refusal) : (s.refuse r).vsp = s.vsp := rfl
@[simp] theorem State.refuse_mra (s : State) (r : Refusal) : (s.refuse r).mra = s.mra := rfl

/-! The chip updates of the clock and of register writes. -/

@[simp] theorem SyncTimer.countH_regs (t : SyncTimer) : t.countH.regs = t.regs := by unfold SyncTimer.countH; split <;> rfl
@[simp] theorem SyncTimer.countH_crtcSel (t : SyncTimer) : t.countH.crtcSel = t.crtcSel := by unfold SyncTimer.countH; split <;> rfl
@[simp] theorem SyncTimer.countH_hw (t : SyncTimer) : t.countH.hw = t.hw := by unfold SyncTimer.countH; split <;> rfl
@[simp] theorem SyncTimer.countH_vw (t : SyncTimer) : t.countH.vw = t.vw := by unfold SyncTimer.countH; split <;> rfl
@[simp] theorem SyncTimer.countH_col (t : SyncTimer) : t.countH.col = t.col := by unfold SyncTimer.countH; split <;> rfl
@[simp] theorem SyncTimer.countH_line (t : SyncTimer) : t.countH.line = t.line := by unfold SyncTimer.countH; split <;> rfl
@[simp] theorem SyncTimer.countH_row (t : SyncTimer) : t.countH.row = t.row := by unfold SyncTimer.countH; split <;> rfl
@[simp] theorem SyncTimer.countH_vcount (t : SyncTimer) : t.countH.vcount = t.vcount := by unfold SyncTimer.countH; split <;> rfl
@[simp] theorem SyncTimer.countH_inV (t : SyncTimer) : t.countH.inV = t.inV := by unfold SyncTimer.countH; split <;> rfl
@[simp] theorem SyncTimer.countV_regs (t : SyncTimer) : t.countV.regs = t.regs := by unfold SyncTimer.countV; split <;> rfl
@[simp] theorem SyncTimer.countV_crtcSel (t : SyncTimer) : t.countV.crtcSel = t.crtcSel := by unfold SyncTimer.countV; split <;> rfl
@[simp] theorem SyncTimer.countV_hw (t : SyncTimer) : t.countV.hw = t.hw := by unfold SyncTimer.countV; split <;> rfl
@[simp] theorem SyncTimer.countV_vw (t : SyncTimer) : t.countV.vw = t.vw := by unfold SyncTimer.countV; split <;> rfl
@[simp] theorem SyncTimer.countV_col (t : SyncTimer) : t.countV.col = t.col := by unfold SyncTimer.countV; split <;> rfl
@[simp] theorem SyncTimer.countV_line (t : SyncTimer) : t.countV.line = t.line := by unfold SyncTimer.countV; split <;> rfl
@[simp] theorem SyncTimer.countV_row (t : SyncTimer) : t.countV.row = t.row := by unfold SyncTimer.countV; split <;> rfl
@[simp] theorem SyncTimer.countV_hcount (t : SyncTimer) : t.countV.hcount = t.hcount := by unfold SyncTimer.countV; split <;> rfl
@[simp] theorem SyncTimer.countV_inH (t : SyncTimer) : t.countV.inH = t.inH := by unfold SyncTimer.countV; split <;> rfl
@[simp] theorem SyncTimer.withWidths_regs (t : SyncTimer) (i : Fin 18) : (t.withWidths i).regs = t.regs := rfl
@[simp] theorem SyncTimer.withWidths_crtcSel (t : SyncTimer) (i : Fin 18) : (t.withWidths i).crtcSel = t.crtcSel := rfl
@[simp] theorem SyncTimer.withWidths_hw (t : SyncTimer) (i : Fin 18) : (t.withWidths i).hw = width16 (lowNibble t.regs[i]) := rfl
@[simp] theorem SyncTimer.withWidths_vw (t : SyncTimer) (i : Fin 18) : (t.withWidths i).vw = width16 (highNibble t.regs[i]) := rfl
@[simp] theorem SyncTimer.withWidths_col (t : SyncTimer) (i : Fin 18) : (t.withWidths i).col = t.col := rfl
@[simp] theorem SyncTimer.withWidths_line (t : SyncTimer) (i : Fin 18) : (t.withWidths i).line = t.line := rfl
@[simp] theorem SyncTimer.withWidths_row (t : SyncTimer) (i : Fin 18) : (t.withWidths i).row = t.row := rfl
@[simp] theorem SyncTimer.withWidths_hcount (t : SyncTimer) (i : Fin 18) : (t.withWidths i).hcount = t.hcount := rfl
@[simp] theorem SyncTimer.withWidths_vcount (t : SyncTimer) (i : Fin 18) : (t.withWidths i).vcount = t.vcount := rfl
@[simp] theorem SyncTimer.withWidths_inH (t : SyncTimer) (i : Fin 18) : (t.withWidths i).inH = t.inH := rfl
@[simp] theorem SyncTimer.withWidths_inV (t : SyncTimer) (i : Fin 18) : (t.withWidths i).inV = t.inV := rfl

end Sys2Proof.Machine
end

