-- ==== Sys2Proof/Laws/Ops.lean ====
section
/-! SUPPORT. What each shared operation can do, said once: the frame of a stimulus, reads of components, bank selection,
ROM and RAM reads, the SoundChip bus. -/

namespace Sys2Proof.Machine

/-! Flows. -/

@[simp] theorem Flow.state_running (s : State) : (Flow.running s).state = s := rfl
@[simp] theorem Flow.state_ended (s : State) : (Flow.ended s).state = s := rfl
@[simp] theorem Flow.andThen_running (s : State) (k : State → Flow) : (Flow.running s).andThen k = k s := rfl
@[simp] theorem Flow.andThen_ended (s : State) (k : State → Flow) : (Flow.ended s).andThen k = .ended s := rfl

/-- What `andThen` can reach: the first flow ended there, or the second ran from where the first stood. -/
theorem Flow.andThen_cases (f : Flow) (k : State → Flow) :
    (∃ s, f = .ended s ∧ f.andThen k = .ended s) ∨ (∃ s, f = .running s ∧ f.andThen k = k s) := by
  cases f with
  | running s => exact .inr ⟨s, rfl, rfl⟩
  | ended s => exact .inl ⟨s, rfl, rfl⟩

@[simp] theorem raiseAndEnd_eq (s : State) (f : Fault) : raiseAndEnd s f = .ended (s.raiseFault f) := rfl

/-! The frame of a stimulus. -/

/-- A faulted state is stuck (R441). -/
theorem stimulus_stuck {s : State} {f : Fault} (h : s.faultMark = some f) (body : State → Flow) :
    stimulus s body = .next s := by
  unfold stimulus; rw [h]

/-- With no fault mark a stimulus runs. -/
theorem stimulus_running {s : State} (h : s.faultMark = none) (body : State → Flow) :
    stimulus s body = .next (body s).state := by
  unfold stimulus; rw [h]

/-- Every stimulus answers a next state: the same one when stuck, the body's otherwise. -/
theorem stimulus_cases (s : State) (body : State → Flow) :
    (∃ f, s.faultMark = some f ∧ stimulus s body = .next s) ∨
    (s.faultMark = none ∧ stimulus s body = .next (body s).state) := by
  cases h : s.faultMark with
  | some f => exact .inl ⟨f, rfl, stimulus_stuck h body⟩
  | none => exact .inr ⟨rfl, stimulus_running h body⟩

/-! Reads of components. -/

theorem isUnwritten_congr {s t : State} (hp : t.params = s.params) (hu : t.unwritten = s.unwritten) (c : Component) :
    isUnwritten t c = isUnwritten s c := by
  unfold isUnwritten; rw [hp, hu]

theorem State.allWritten_congr {s t : State} (hp : t.params = s.params) (hu : t.unwritten = s.unwritten)
    (h : s.allWritten) : t.allWritten := fun c => (isUnwritten_congr hp hu c).trans (h c)

theorem State.timingWritten_of_all {s : State} (h : s.allWritten) : s.timingWritten := fun c _ => h c

/-- Under RESET_UNKNOWN = draw every component holds a value (R490). -/
theorem State.allWritten_of_draw {s : State} (h : s.params.resetUnknown = .draw) : s.allWritten := by
  intro c; unfold isUnwritten; rw [h]; rfl

/-- No component is listed as unwritten. -/
theorem State.allWritten_of_empty {s : State} (h : s.unwritten = []) : s.allWritten := by
  intro c; unfold isUnwritten; rw [h]; cases c <;> simp

theorem reading_written {c : Component} {s : State} (h : isUnwritten s c = false) (k : State → Flow) :
    reading c s k = k s := by
  unfold reading; rw [h]; rfl

theorem reading_unwritten {c : Component} {s : State} (h : isUnwritten s c = true) (k : State → Flow) :
    reading c s k = .ended (s.raiseFault (.unwritten c)) := by
  unfold reading; rw [h]; rfl

theorem reading_cases (c : Component) (s : State) (k : State → Flow) :
    (isUnwritten s c = true ∧ reading c s k = .ended (s.raiseFault (.unwritten c))) ∨
    (isUnwritten s c = false ∧ reading c s k = k s) := by
  cases h : isUnwritten s c with
  | true => exact .inl ⟨rfl, reading_unwritten h k⟩
  | false => exact .inr ⟨rfl, reading_written h k⟩

/-! Banks, ROM and RAM. -/

theorem selectBank_lt {s : State} {i : Nat} (h : i < 8) :
    selectBank s i = .running (s.setMem { s.mem with bankCfg := ⟨i, h⟩ }) := by
  unfold selectBank; rw [dif_pos h]

theorem selectBank_ge {s : State} {i : Nat} (h : 8 ≤ i) :
    selectBank s i = .ended (s.raiseFault (.contract .bankIndex)) := by
  unfold selectBank; rw [dif_neg (by omega)]; rfl

theorem bankIndexOf_toNat (d : Byte) : bankIndexOf d = d.toNat % 8 := by
  unfold bankIndexOf
  rw [BitVec.toNat_and]
  exact Nat.and_two_pow_sub_one_eq_mod d.toNat 3

theorem bankIndexOf_lt (d : Byte) : bankIndexOf d < 8 := by rw [bankIndexOf_toNat]; omega

/-- What a memory read answers: the byte of the ROM slot that overlays the address, ROM_ABSENT with that slot, or RAM
through the bank table (R94). -/
theorem memReadByte_cases (s : State) (a : Addr) :
    (a.toNat < 0x4000 ∧ s.pal.lowerRomEn = true ∧ memReadByte s a = readRom s 255 a) ∨
    (0xC000 ≤ a.toNat ∧ s.pal.upperRomEn = true ∧ memReadByte s a = readRom s (upperSlot s) a) ∨
    (¬ (a.toNat < 0x4000 ∧ s.pal.lowerRomEn = true) ∧ ¬ (0xC000 ≤ a.toNat ∧ s.pal.upperRomEn = true) ∧
      memReadByte s a = readRam s (ramAddress s a)) := by
  unfold memReadByte
  split
  · rename_i h; exact .inl ⟨h.1, h.2, rfl⟩
  · split
    · rename_i h; exact .inr (.inl ⟨h.1, h.2, rfl⟩)
    · rename_i h1 h2; exact .inr (.inr ⟨h1, h2, rfl⟩)

/-- A read of RAM under RESET_UNKNOWN = draw gives the byte (R490). -/
theorem readRam_draw {s : State} (h : s.params.resetUnknown = .draw) (a : Nat) : readRam s a = .ok (ramByte s a) := by
  unfold readRam; rw [h]; simp

/-! The SoundChip bus. -/

@[simp] theorem psgApply_inactive (s : State) (d : Byte) : psgApply s .inactive d = .running s := rfl
@[simp] theorem psgApply_read (s : State) (d : Byte) : psgApply s .read d = .running s := rfl
@[simp] theorem psgApply_write (s : State) (d : Byte) : psgApply s .write d = .running (psgWriteSelected s d) := rfl
@[simp] theorem psgApply_select (s : State) (d : Byte) : psgApply s .select d = psgSelect s d := rfl

theorem psgSelect_lt {s : State} {d : Byte} (h : d.toNat < 16) :
    psgSelect s d = .running (s.setPsg { s.psg with psgSel := ⟨d.toNat, h⟩ }) := by
  unfold psgSelect; rw [dif_pos h]

theorem psgSelect_ge {s : State} {d : Byte} (h : 16 ≤ d.toNat) :
    psgSelect s d = .ended (s.raiseFault (.contract .psgRegisterIndex)) := by
  unfold psgSelect; rw [dif_neg (by omega)]; rfl

/-- Everything a bus function can do: nothing, a store into the selected register, a selection, or the CONTRACT fault
of an index above 15 (R333, R335). -/
theorem psgApply_cases (s : State) (f : PsgFn) (d : Byte) :
    psgApply s f d = .running s ∨ (f = .write ∧ psgApply s f d = .running (psgWriteSelected s d)) ∨
    (∃ h : d.toNat < 16, f = .select ∧
      psgApply s f d = .running (s.setPsg { s.psg with psgSel := ⟨d.toNat, h⟩ })) ∨
    (16 ≤ d.toNat ∧ f = .select ∧ psgApply s f d = .ended (s.raiseFault (.contract .psgRegisterIndex))) := by
  cases f with
  | inactive => exact .inl rfl
  | read => exact .inl rfl
  | write => exact .inr (.inl ⟨rfl, rfl⟩)
  | select =>
    by_cases h : d.toNat < 16
    · exact .inr (.inr (.inl ⟨h, rfl, psgSelect_lt h⟩))
    · exact .inr (.inr (.inr ⟨by omega, rfl, psgSelect_ge (by omega)⟩))

/-- What a bus function leaves alone, whatever it does (R335). -/
theorem psgApply_frame (s : State) (f : PsgFn) (d : Byte) :
    ∃ c m, (psgApply s f d).state = { s with psg := c, faultMark := m } ∧ (m = s.faultMark ∨ m.isSome = true) := by
  rcases psgApply_cases s f d with h | ⟨-, h⟩ | ⟨h1, -, h⟩ | ⟨-, -, h⟩ <;> rw [h]
  · exact ⟨s.psg, s.faultMark, rfl, .inl rfl⟩
  · exact ⟨_, s.faultMark, rfl, .inl rfl⟩
  · exact ⟨_, s.faultMark, rfl, .inl rfl⟩
  · exact ⟨s.psg, _, rfl, .inr rfl⟩

/-! The generators' fields under register writes. -/

theorem Channel.advance_period (ch : Channel) : ch.advance.period = ch.period := by
  unfold Channel.advance; split <;> rfl

/-- `max1` is at least 1 (R12). -/
theorem max1_pos (p : Nat) : 1 ≤ max1 p := by unfold max1; split <;> omega

/-- `width16` lies in 1..16 (R37). -/
theorem width16_range (n : BitVec 4) : 1 ≤ width16 n ∧ width16 n ≤ 16 := by
  have hn := n.isLt
  unfold width16
  split
  · omega
  · rename_i h
    have : n.toNat ≠ 0 := fun h0 => h (BitVec.eq_of_toNat_eq (by simpa using h0))
    omega

/-! Inputs. -/

/-- What the next step applies: nothing, the decoded stimulus, an illegal word, or a host call (log 1). -/
theorem fetch_cases (s : State) :
    (s.pending = [] ∧ fetch s = .idle) ∨
    (∃ st rest i, s.pending = .stimulus st :: rest ∧ decode s.params st = .ok i ∧
      fetch s = .instr i (s.setPending rest)) ∨
    (∃ st rest e, s.pending = .stimulus st :: rest ∧ decode s.params st = .error e ∧
      fetch s = .illegal (s.setPending rest)) ∨
    (∃ c rest, s.pending = .hostCall c :: rest ∧ fetch s = .call c (s.setPending rest)) := by
  unfold fetch
  split
  · rename_i h; exact .inl ⟨h, rfl⟩
  · rename_i st rest h
    split
    · rename_i i hi; exact .inr (.inl ⟨st, rest, i, h, hi, rfl⟩)
    · rename_i e he; exact .inr (.inr (.inl ⟨st, rest, e, h, he, rfl⟩))
  · rename_i c rest h; exact .inr (.inr (.inr ⟨c, rest, h, rfl⟩))

/-- Everything a step can be: standing still, a stimulus, an illegal word's refusal, or a host call. -/
theorem step_cases (s : State) :
    (s.pending = [] ∧ step s = .next s) ∨
    (∃ st rest i, s.pending = .stimulus st :: rest ∧ decode s.params st = .ok i ∧
      step s = exec i (s.setPending rest)) ∨
    (∃ st rest e, s.pending = .stimulus st :: rest ∧ decode s.params st = .error e ∧
      step s = execIllegal (s.setPending rest)) ∨
    (∃ c rest, s.pending = .hostCall c :: rest ∧ step s = runHostCall c (s.setPending rest)) := by
  rcases fetch_cases s with ⟨h, hf⟩ | ⟨st, rest, i, h, hd, hf⟩ | ⟨st, rest, e, h, hd, hf⟩ | ⟨c, rest, h, hf⟩
  · exact .inl ⟨h, by unfold step; rw [hf]⟩
  · exact .inr (.inl ⟨st, rest, i, h, hd, by unfold step; rw [hf]⟩)
  · exact .inr (.inr (.inl ⟨st, rest, e, h, hd, by unfold step; rw [hf]⟩))
  · exact .inr (.inr (.inr ⟨c, rest, h, by unfold step; rw [hf]⟩))

end Sys2Proof.Machine
end

