-- ==== Sys2Proof/Laws/Clock.lean ====
section
/-! SUPPORT. What one CLOCK can do: the frame of each half, the forms of the SyncTimer's half when no fault is due, and
what the palette's listeners answer (41_synctimer.md R215, 42_palette_interrupt.md R260, 45_soundchip_generators.md
R371). -/

namespace Sys2Proof.Machine

/-! Relations along a flow. -/

/-- The flow relates `s` to the state it reaches by `R`; while it runs the fault mark is as in `s`, and where it ended
a fault is marked. -/
def Flow.obeys (R : State → State → Prop) (s : State) : Flow → Prop
  | .running t => R s t ∧ t.faultMark = s.faultMark
  | .ended t => R s t ∧ t.faultMark.isSome = true

theorem Flow.obeys_state {R : State → State → Prop} {s : State} {f : Flow} (h : f.obeys R s) : R s f.state := by
  cases f <;> exact h.1

/-- A flow that reached a state without a fault mark is still running. -/
theorem Flow.running_of_none {R : State → State → Prop} {s : State} {f : Flow} (h : f.obeys R s)
    (hf : f.state.faultMark = none) : f = .running f.state := by
  cases f with
  | running t => rfl
  | ended t => simp only [Flow.obeys, Flow.state_ended] at h hf; rw [hf] at h; cases h.2

theorem Flow.obeys_andThen {R : State → State → Prop} (trans : ∀ a b c, R a b → R b c → R a c) {s : State} {f : Flow}
    {k : State → Flow} (hf : f.obeys R s) (hk : ∀ t, R s t → t.faultMark = s.faultMark → (k t).obeys R t) :
    (f.andThen k).obeys R s := by
  cases f with
  | ended t => exact hf
  | running t =>
    have h := hk t hf.1 hf.2
    rw [Flow.andThen_running]
    cases hkt : k t with
    | running u => rw [hkt] at h; exact ⟨trans s t u hf.1 h.1, h.2.trans hf.2⟩
    | ended u => rw [hkt] at h; exact ⟨trans s t u hf.1 h.1, h.2⟩

theorem Flow.obeys_raise {R : State → State → Prop} {s u : State} {f : Fault} (h : R s (u.raiseFault f)) :
    (raiseAndEnd u f).obeys R s := ⟨h, rfl⟩

theorem Flow.obeys_reading {R : State → State → Prop} {c : Component} {s u : State} {k : State → Flow}
    (hr : ∀ f, R s (u.raiseFault f)) (hk : isUnwritten u c = false → (k u).obeys R s) :
    (reading c u k).obeys R s := by
  rcases reading_cases c u k with ⟨_, h⟩ | ⟨hw, h⟩ <;> rw [h]
  · exact ⟨hr _, rfl⟩
  · exact hk hw

/-! The frame of the SyncTimer's half. -/

/-- `t` differs from `s` at most in the SyncTimer's position, countdowns and flags, in `icount`, `vdelay`, `irq`, the
trace and the fault mark. -/
structure TimingOnly (s t : State) : Prop where
  params : t.params = s.params
  regs : t.sync.regs = s.sync.regs
  crtcSel : t.sync.crtcSel = s.sync.crtcSel
  hw : t.sync.hw = s.sync.hw
  vw : t.sync.vw = s.sync.vw
  pens : t.pal.pens = s.pal.pens
  selPen : t.pal.selPen = s.pal.selPen
  mode : t.pal.mode = s.pal.mode
  lowerRomEn : t.pal.lowerRomEn = s.pal.lowerRomEn
  upperRomEn : t.pal.upperRomEn = s.pal.upperRomEn
  mem : t.mem = s.mem
  ppi : t.ppi = s.ppi
  psg : t.psg = s.psg
  refusalMark : t.refusalMark = s.refusalMark
  unwritten : t.unwritten = s.unwritten
  draws : t.draws = s.draws
  returned : t.returned = s.returned
  pending : t.pending = s.pending

theorem TimingOnly.trans (a b c : State) (h : TimingOnly a b) (k : TimingOnly b c) : TimingOnly a c := by
  constructor
  all_goals first
    | exact k.params.trans h.params | exact k.regs.trans h.regs | exact k.crtcSel.trans h.crtcSel
    | exact k.hw.trans h.hw | exact k.vw.trans h.vw | exact k.pens.trans h.pens | exact k.selPen.trans h.selPen
    | exact k.mode.trans h.mode | exact k.lowerRomEn.trans h.lowerRomEn | exact k.upperRomEn.trans h.upperRomEn
    | exact k.mem.trans h.mem | exact k.ppi.trans h.ppi | exact k.psg.trans h.psg
    | exact k.refusalMark.trans h.refusalMark | exact k.unwritten.trans h.unwritten | exact k.draws.trans h.draws
    | exact k.returned.trans h.returned | exact k.pending.trans h.pending

/-- An update of the timing components only. -/
theorem TimingOnly.of_update (s : State) (x : SyncTimer) (i v : Nat) (b : Bool) (e : List Event) (m : Option Fault)
    (h1 : x.regs = s.sync.regs) (h2 : x.crtcSel = s.sync.crtcSel) (h3 : x.hw = s.sync.hw) (h4 : x.vw = s.sync.vw) :
    TimingOnly s { s with
      sync := x, pal := { s.pal with icount := i, vdelay := v }, irq := b, trace := e, faultMark := m } :=
  ⟨rfl, h1, h2, h3, h4, rfl, rfl, rfl, rfl, rfl, rfl, rfl, rfl, rfl, rfl, rfl, rfl, rfl⟩

theorem TimingOnly.refl (s : State) : TimingOnly s s :=
  TimingOnly.of_update s s.sync s.pal.icount s.pal.vdelay s.irq s.trace s.faultMark rfl rfl rfl rfl

theorem TimingOnly.raise (s : State) (f : Fault) : TimingOnly s (s.raiseFault f) :=
  TimingOnly.of_update s s.sync s.pal.icount s.pal.vdelay s.irq s.trace (some f) rfl rfl rfl rfl

theorem TimingOnly.crtc {s t : State} (h : TimingOnly s t) (i : Fin 18) : t.crtc i = s.crtc i := by
  unfold State.crtc; rw [h.regs]

theorem TimingOnly.ht {s t : State} (h : TimingOnly s t) : t.ht = s.ht := by unfold State.ht; rw [h.crtc, h.params]
theorem TimingOnly.hsp {s t : State} (h : TimingOnly s t) : t.hsp = s.hsp := by unfold State.hsp; rw [h.crtc, h.params]
theorem TimingOnly.vt {s t : State} (h : TimingOnly s t) : t.vt = s.vt := by unfold State.vt; rw [h.crtc, h.params]
theorem TimingOnly.vsp {s t : State} (h : TimingOnly s t) : t.vsp = s.vsp := by unfold State.vsp; rw [h.crtc, h.params]
theorem TimingOnly.mra {s t : State} (h : TimingOnly s t) : t.mra = s.mra := by unfold State.mra; rw [h.crtc, h.params]

/-- Everything the hsync listener can do (R260, R261): raise OVERRUN, or write `icount`, `vdelay` and `irq`. -/
theorem palOnHsync_cases (s : State) :
    (s.pal.vdelay = 0 ∧ 52 < s.pal.icount + 1 ∧
      palOnHsync s = .ended ((s.setPal { s.pal with icount := s.pal.icount + 1 }).raiseFault (.overrun .icount))) ∨
    (s.pal.vdelay = 0 ∧ s.pal.icount + 1 = 52 ∧ palOnHsync s = .running { s with
      pal := { s.pal with icount := 0 }, irq := true, trace := s.trace ++ [.irqSet] }) ∨
    (s.pal.vdelay = 0 ∧ s.pal.icount + 1 < 52 ∧
      palOnHsync s = .running (s.setPal { s.pal with icount := s.pal.icount + 1 })) ∨
    (s.pal.vdelay = 1 ∧ 32 ≤ s.pal.icount + 1 ∧ palOnHsync s = .running { s with
      pal := { s.pal with icount := 0, vdelay := 0 }, irq := true, trace := s.trace ++ [.irqSet] }) ∨
    (s.pal.vdelay = 1 ∧ s.pal.icount + 1 < 32 ∧
      palOnHsync s = .running (s.setPal { s.pal with icount := 0, vdelay := 0 })) ∨
    (2 ≤ s.pal.vdelay ∧ palOnHsync s = .running
      (s.setPal { s.pal with icount := s.pal.icount + 1, vdelay := s.pal.vdelay - 1 })) := by
  by_cases h0 : s.pal.vdelay = 0
  · by_cases h1 : 52 < s.pal.icount + 1
    · refine .inl ⟨h0, h1, ?_⟩
      simp [palOnHsync, h0, h1]
    · by_cases h2 : s.pal.icount + 1 = 52
      · refine .inr (.inl ⟨h0, h2, ?_⟩)
        simp [palOnHsync, h0, h2, requestIrq, State.setPal, State.setIrq, State.emit]
      · refine .inr (.inr (.inl ⟨h0, by omega, ?_⟩))
        simp [palOnHsync, h0, h1, h2]
  · by_cases h1 : s.pal.vdelay - 1 = 0
    · by_cases h2 : 32 ≤ s.pal.icount + 1
      · refine .inr (.inr (.inr (.inl ⟨by omega, h2, ?_⟩)))
        simp [palOnHsync, h0, h1, h2, requestIrq, State.setPal, State.setIrq, State.emit]
      · refine .inr (.inr (.inr (.inr (.inl ⟨by omega, by omega, ?_⟩))))
        simp [palOnHsync, h0, h1, h2, State.setPal]
    · refine .inr (.inr (.inr (.inr (.inr ⟨by omega, ?_⟩))))
      simp [palOnHsync, h0, h1, State.setPal]

theorem palOnHsync_obeys (s : State) : (palOnHsync s).obeys TimingOnly s := by
  rcases palOnHsync_cases s with ⟨_, _, h⟩ | ⟨_, _, h⟩ | ⟨_, _, h⟩ | ⟨_, _, h⟩ | ⟨_, _, h⟩ | ⟨_, h⟩ <;> rw [h]
  · exact ⟨TimingOnly.of_update s s.sync _ s.pal.vdelay s.irq s.trace _ rfl rfl rfl rfl, rfl⟩
  · exact ⟨TimingOnly.of_update s s.sync _ s.pal.vdelay true _ s.faultMark rfl rfl rfl rfl, rfl⟩
  · exact ⟨TimingOnly.of_update s s.sync _ s.pal.vdelay s.irq s.trace s.faultMark rfl rfl rfl rfl, rfl⟩
  · exact ⟨TimingOnly.of_update s s.sync 0 0 true _ s.faultMark rfl rfl rfl rfl, rfl⟩
  · exact ⟨TimingOnly.of_update s s.sync 0 0 s.irq s.trace s.faultMark rfl rfl rfl rfl, rfl⟩
  · exact ⟨TimingOnly.of_update s s.sync _ _ s.irq s.trace s.faultMark rfl rfl rfl rfl, rfl⟩

theorem TimingOnly.setSync (s : State) (x : SyncTimer)
    (h1 : x.regs = s.sync.regs) (h2 : x.crtcSel = s.sync.crtcSel) (h3 : x.hw = s.sync.hw) (h4 : x.vw = s.sync.vw) :
    TimingOnly s (s.setSync x) :=
  TimingOnly.of_update s x s.pal.icount s.pal.vdelay s.irq s.trace s.faultMark h1 h2 h3 h4

theorem clockColumn_obeys (s : State) : (clockColumn s).obeys TimingOnly s := by
  unfold clockColumn
  have h0 : TimingOnly s (s.setSync { s.sync with col := s.sync.col + 1 }) := .setSync s _ rfl rfl rfl rfl
  refine Flow.obeys_reading (fun f => .trans _ _ _ h0 (.raise _ f)) fun _ => ?_
  split
  · exact Flow.obeys_raise (.trans _ _ _ h0 (.raise _ _))
  · exact ⟨h0, rfl⟩

theorem clockRow_obeys (s : State) : (clockRow s).obeys TimingOnly s := by
  unfold clockRow
  have h0 : TimingOnly s (s.setSync { s.sync with line := 0, row := s.sync.row + 1 }) := .setSync s _ rfl rfl rfl rfl
  refine Flow.obeys_reading (fun f => .trans _ _ _ h0 (.raise _ f)) fun _ => ?_
  split
  · exact Flow.obeys_raise (.trans _ _ _ h0 (.raise _ _))
  · split
    · exact ⟨.trans _ _ _ h0 (.setSync _ _ rfl rfl rfl rfl), rfl⟩
    · exact ⟨h0, rfl⟩

theorem clockLine_obeys (s : State) : (clockLine s).obeys TimingOnly s := by
  unfold clockLine
  have h0 : TimingOnly s (s.setSync { s.sync with line := s.sync.line + 1 }) := .setSync s _ rfl rfl rfl rfl
  refine Flow.obeys_reading (fun f => .trans _ _ _ h0 (.raise _ f)) fun _ => ?_
  split
  · exact Flow.obeys_raise (.trans _ _ _ h0 (.raise _ _))
  · split
    · have h := clockRow_obeys (s.setSync { s.sync with line := s.sync.line + 1 })
      cases hr : clockRow (s.setSync { s.sync with line := s.sync.line + 1 }) with
      | running t => rw [hr] at h; exact ⟨.trans _ _ _ h0 h.1, h.2⟩
      | ended t => rw [hr] at h; exact ⟨.trans _ _ _ h0 h.1, h.2⟩
    · exact ⟨h0, rfl⟩

theorem enterVsync_obeys (s : State) : (enterVsync s).obeys TimingOnly s := by
  unfold enterVsync
  have h0 : TimingOnly s (s.setSync { s.sync with inV := true }) := .setSync s _ rfl rfl rfl rfl
  refine Flow.obeys_reading (fun f => .trans _ _ _ h0 (.raise _ f)) fun _ => ?_
  exact ⟨TimingOnly.of_update s { s.sync with inV := true, vcount := s.sync.vw } s.pal.icount 2 s.irq _ s.faultMark
    rfl rfl rfl rfl, rfl⟩

theorem vsyncTest_obeys (s : State) : (vsyncTest s).obeys TimingOnly s := by
  unfold vsyncTest
  split
  · split
    · exact ⟨.refl s, rfl⟩
    · refine Flow.obeys_reading (fun f => .raise _ f) fun _ => ?_
      split
      · exact enterVsync_obeys s
      · exact ⟨.refl s, rfl⟩
  · exact ⟨.refl s, rfl⟩

/-- A flow that starts from a state `u` with the timing components of `s` changed. -/
theorem Flow.obeys_from {R : State → State → Prop} (trans : ∀ a b c, R a b → R b c → R a c) {s u : State} {f : Flow}
    (h0 : R s u) (hm : u.faultMark = s.faultMark) (h : f.obeys R u) : f.obeys R s := by
  cases f with
  | running t => exact ⟨trans s u t h0 h.1, h.2.trans hm⟩
  | ended t => exact ⟨trans s u t h0 h.1, h.2⟩

theorem endOfScanline_obeys (s : State) : (endOfScanline s).obeys TimingOnly s := by
  unfold endOfScanline
  have h0 : TimingOnly s (s.setSync { s.sync with col := 0 }) := .setSync s _ rfl rfl rfl rfl
  have h1 : TimingOnly (s.setSync { s.sync with col := 0 })
      ((s.setSync { s.sync with col := 0 }).setSync (s.setSync { s.sync with col := 0 }).sync.countV) :=
    .setSync _ _ (by simp) (by simp) (by simp) (by simp)
  exact Flow.obeys_from TimingOnly.trans (.trans _ _ _ h0 h1) rfl
    (Flow.obeys_andThen TimingOnly.trans (clockLine_obeys _) fun t _ _ => vsyncTest_obeys t)

theorem enterHsync_obeys (s : State) : (enterHsync s).obeys TimingOnly s := by
  unfold enterHsync
  have h0 : TimingOnly s (s.setSync { s.sync with inH := true }) := .setSync s _ rfl rfl rfl rfl
  refine Flow.obeys_reading (fun f => .trans _ _ _ h0 (.raise _ f)) fun _ => ?_
  exact Flow.obeys_from TimingOnly.trans
    (TimingOnly.of_update s { s.sync with inH := true, hcount := s.sync.hw } s.pal.icount s.pal.vdelay s.irq _
      s.faultMark rfl rfl rfl rfl) rfl (palOnHsync_obeys _)

theorem hsyncTest_obeys (s : State) : (hsyncTest s).obeys TimingOnly s := by
  unfold hsyncTest
  refine Flow.obeys_reading (fun f => .raise _ f) fun _ => ?_
  split
  · exact enterHsync_obeys s
  · exact ⟨.refl s, rfl⟩

/-- The SyncTimer's half of a CLOCK changes timing components only (R215). -/
theorem syncOnClock_obeys (s : State) : (syncOnClock s).obeys TimingOnly s := by
  unfold syncOnClock
  refine Flow.obeys_andThen TimingOnly.trans (clockColumn_obeys s) fun t _ _ => ?_
  have h0 : TimingOnly t (t.setSync t.sync.countH) := .setSync _ _ (by simp) (by simp) (by simp) (by simp)
  refine Flow.obeys_from TimingOnly.trans h0 rfl ?_
  dsimp only
  split
  · exact endOfScanline_obeys _
  · exact hsyncTest_obeys _

/-! The frame of the SoundChip's half. -/

/-- `t` differs from `s` at most in the SoundChip's generators, the fault mark and SAMPLE events appended to the trace
and, as samples, to the buffer: the chip's registers and what only a register write sets are as in `s`. -/
structure SoundOnly (s t : State) : Prop where
  params : t.params = s.params
  sync : t.sync = s.sync
  pal : t.pal = s.pal
  irq : t.irq = s.irq
  mem : t.mem = s.mem
  ppi : t.ppi = s.ppi
  refusalMark : t.refusalMark = s.refusalMark
  unwritten : t.unwritten = s.unwritten
  draws : t.draws = s.draws
  returned : t.returned = s.returned
  pending : t.pending = s.pending
  regs : t.psg.regs = s.psg.regs
  psgSel : t.psg.psgSel = s.psg.psgSel
  psgFn : t.psg.psgFn = s.psg.psgFn
  ioADirOut : t.psg.ioADirOut = s.psg.ioADirOut
  ioBDirOut : t.psg.ioBDirOut = s.psg.ioBDirOut
  nperiod : t.psg.nperiod = s.psg.nperiod
  eperiod : t.psg.eperiod = s.psg.eperiod
  shape : t.psg.shape = s.psg.shape
  hold : t.psg.hold = s.psg.hold
  trace : ∃ l : List Sample, t.trace = s.trace ++ l.map (fun x => Event.sample x.left x.right) ∧
    t.psg.obuf = s.psg.obuf ++ l

theorem SoundOnly.trans (a b c : State) (h : SoundOnly a b) (k : SoundOnly b c) : SoundOnly a c := by
  obtain ⟨l1, ht1, ho1⟩ := h.trace
  obtain ⟨l2, ht2, ho2⟩ := k.trace
  exact ⟨k.params.trans h.params, k.sync.trans h.sync, k.pal.trans h.pal, k.irq.trans h.irq, k.mem.trans h.mem,
    k.ppi.trans h.ppi, k.refusalMark.trans h.refusalMark, k.unwritten.trans h.unwritten, k.draws.trans h.draws,
    k.returned.trans h.returned, k.pending.trans h.pending, k.regs.trans h.regs, k.psgSel.trans h.psgSel,
    k.psgFn.trans h.psgFn, k.ioADirOut.trans h.ioADirOut, k.ioBDirOut.trans h.ioBDirOut, k.nperiod.trans h.nperiod,
    k.eperiod.trans h.eperiod, k.shape.trans h.shape, k.hold.trans h.hold,
    l1 ++ l2, by simp [ht2, ht1], by simp [ho2, ho1]⟩

/-- What a generator step leaves alone in the chip. -/
structure SoundChip.SameRegs (c d : SoundChip) : Prop where
  regs : d.regs = c.regs
  psgSel : d.psgSel = c.psgSel
  psgFn : d.psgFn = c.psgFn
  obuf : d.obuf = c.obuf
  ioADirOut : d.ioADirOut = c.ioADirOut
  ioBDirOut : d.ioBDirOut = c.ioBDirOut
  nperiod : d.nperiod = c.nperiod
  eperiod : d.eperiod = c.eperiod
  shape : d.shape = c.shape
  hold : d.hold = c.hold

theorem SoundChip.SameRegs.refl (c : SoundChip) : c.SameRegs c := ⟨rfl, rfl, rfl, rfl, rfl, rfl, rfl, rfl, rfl, rfl⟩

/-- An update of the SoundChip's generators. -/
theorem SoundOnly.of_psg (s : State) (c : SoundChip) (h : s.psg.SameRegs c) : SoundOnly s (s.setPsg c) :=
  ⟨rfl, rfl, rfl, rfl, rfl, rfl, rfl, rfl, rfl, rfl, rfl, h.regs, h.psgSel, h.psgFn, h.ioADirOut, h.ioBDirOut,
    h.nperiod, h.eperiod, h.shape, h.hold, [], by simp, by simp [h.obuf]⟩

theorem SoundOnly.refl (s : State) : SoundOnly s s := SoundOnly.of_psg s s.psg (.refl _)

theorem SoundOnly.raise (s : State) (f : Fault) : SoundOnly s (s.raiseFault f) :=
  ⟨rfl, rfl, rfl, rfl, rfl, rfl, rfl, rfl, rfl, rfl, rfl, rfl, rfl, rfl, rfl, rfl, rfl, rfl, rfl, rfl, [], by simp,
    by simp⟩

theorem SoundChip.tick_same (c : SoundChip) : c.SameRegs c.tick := ⟨rfl, rfl, rfl, rfl, rfl, rfl, rfl, rfl, rfl, rfl⟩

theorem SoundChip.setScount_same (c : SoundChip) (n : Nat) : c.SameRegs { c with scount := n } :=
  ⟨rfl, rfl, rfl, rfl, rfl, rfl, rfl, rfl, rfl, rfl⟩

theorem SoundChip.updateNoise_same (c : SoundChip) (q : Params) : c.SameRegs (c.updateNoise q) := by
  unfold SoundChip.updateNoise; split <;> exact ⟨rfl, rfl, rfl, rfl, rfl, rfl, rfl, rfl, rfl, rfl⟩

theorem SoundChip.updateChannels_same (c : SoundChip) (q : Params) : c.SameRegs (c.updateChannels q) :=
  ⟨rfl, rfl, rfl, rfl, rfl, rfl, rfl, rfl, rfl, rfl⟩

theorem SoundChip.updateEnvelope_same (c : SoundChip) (q : Params) : c.SameRegs (c.updateEnvelope q) := by
  unfold SoundChip.updateEnvelope; split <;> exact ⟨rfl, rfl, rfl, rfl, rfl, rfl, rfl, rfl, rfl, rfl⟩

theorem SoundChip.SameRegs.trans {a b c : SoundChip} (h : a.SameRegs b) (k : b.SameRegs c) : a.SameRegs c :=
  ⟨k.regs.trans h.regs, k.psgSel.trans h.psgSel, k.psgFn.trans h.psgFn, k.obuf.trans h.obuf,
    k.ioADirOut.trans h.ioADirOut, k.ioBDirOut.trans h.ioBDirOut, k.nperiod.trans h.nperiod,
    k.eperiod.trans h.eperiod, k.shape.trans h.shape, k.hold.trans h.hold⟩

theorem SoundChip.toneUpdate_same (c : SoundChip) (q : Params) : c.SameRegs (c.toneUpdate q) := by
  have h := (c.updateNoise_same q).trans ((c.updateNoise q).updateChannels_same q)
  unfold SoundChip.toneUpdate
  dsimp only
  split
  · exact h.trans (((c.updateNoise q).updateChannels q).updateEnvelope_same q) |>.trans
      ⟨rfl, rfl, rfl, rfl, rfl, rfl, rfl, rfl, rfl, rfl⟩
  · exact h.trans ⟨rfl, rfl, rfl, rfl, rfl, rfl, rfl, rfl, rfl, rfl⟩

/-- What a channel update keeps of a channel: everything but its counter, polarity and accumulator (R376). -/
theorem Channel.update_keeps (ch : Channel) (q : Params) (n : Bool) (e : BitVec 4) :
    (ch.update q n e).period = ch.period ∧ (ch.update q n e).toneEn = ch.toneEn ∧
    (ch.update q n e).noiseEn = ch.noiseEn ∧ (ch.update q n e).vol = ch.vol ∧ (ch.update q n e).envF = ch.envF := by
  unfold Channel.update Channel.mix Channel.advance
  split <;> exact ⟨rfl, rfl, rfl, rfl, rfl⟩

/-! Fields that one generator's update leaves alone. -/

@[simp] theorem SoundChip.updateNoise_stick (c : SoundChip) (q : Params) : (c.updateNoise q).stick = c.stick := by
  unfold SoundChip.updateNoise; split <;> rfl
@[simp] theorem SoundChip.updateNoise_scount (c : SoundChip) (q : Params) : (c.updateNoise q).scount = c.scount := by
  unfold SoundChip.updateNoise; split <;> rfl
@[simp] theorem SoundChip.updateNoise_chA (c : SoundChip) (q : Params) : (c.updateNoise q).chA = c.chA := by
  unfold SoundChip.updateNoise; split <;> rfl
@[simp] theorem SoundChip.updateNoise_chB (c : SoundChip) (q : Params) : (c.updateNoise q).chB = c.chB := by
  unfold SoundChip.updateNoise; split <;> rfl
@[simp] theorem SoundChip.updateNoise_chC (c : SoundChip) (q : Params) : (c.updateNoise q).chC = c.chC := by
  unfold SoundChip.updateNoise; split <;> rfl
@[simp] theorem SoundChip.updateNoise_ecount (c : SoundChip) (q : Params) : (c.updateNoise q).ecount = c.ecount := by
  unfold SoundChip.updateNoise; split <;> rfl
@[simp] theorem SoundChip.updateNoise_pos (c : SoundChip) (q : Params) : (c.updateNoise q).pos = c.pos := by
  unfold SoundChip.updateNoise; split <;> rfl
@[simp] theorem SoundChip.updateNoise_elevel (c : SoundChip) (q : Params) : (c.updateNoise q).elevel = c.elevel := by
  unfold SoundChip.updateNoise; split <;> rfl
@[simp] theorem SoundChip.updateNoise_shape (c : SoundChip) (q : Params) : (c.updateNoise q).shape = c.shape := by
  unfold SoundChip.updateNoise; split <;> rfl
@[simp] theorem SoundChip.updateNoise_hold (c : SoundChip) (q : Params) : (c.updateNoise q).hold = c.hold := by
  unfold SoundChip.updateNoise; split <;> rfl
@[simp] theorem SoundChip.updateNoise_eperiod (c : SoundChip) (q : Params) : (c.updateNoise q).eperiod = c.eperiod := by
  unfold SoundChip.updateNoise; split <;> rfl
@[simp] theorem SoundChip.updateNoise_obuf (c : SoundChip) (q : Params) : (c.updateNoise q).obuf = c.obuf := by
  unfold SoundChip.updateNoise; split <;> rfl
@[simp] theorem SoundChip.updateEnvelope_stick (c : SoundChip) (q : Params) : (c.updateEnvelope q).stick = c.stick := by
  unfold SoundChip.updateEnvelope; split <;> rfl
@[simp] theorem SoundChip.updateEnvelope_scount (c : SoundChip) (q : Params) : (c.updateEnvelope q).scount = c.scount := by
  unfold SoundChip.updateEnvelope; split <;> rfl
@[simp] theorem SoundChip.updateEnvelope_chA (c : SoundChip) (q : Params) : (c.updateEnvelope q).chA = c.chA := by
  unfold SoundChip.updateEnvelope; split <;> rfl
@[simp] theorem SoundChip.updateEnvelope_chB (c : SoundChip) (q : Params) : (c.updateEnvelope q).chB = c.chB := by
  unfold SoundChip.updateEnvelope; split <;> rfl
@[simp] theorem SoundChip.updateEnvelope_chC (c : SoundChip) (q : Params) : (c.updateEnvelope q).chC = c.chC := by
  unfold SoundChip.updateEnvelope; split <;> rfl
@[simp] theorem SoundChip.updateEnvelope_ncount (c : SoundChip) (q : Params) : (c.updateEnvelope q).ncount = c.ncount := by
  unfold SoundChip.updateEnvelope; split <;> rfl
@[simp] theorem SoundChip.updateEnvelope_rng (c : SoundChip) (q : Params) : (c.updateEnvelope q).rng = c.rng := by
  unfold SoundChip.updateEnvelope; split <;> rfl
@[simp] theorem SoundChip.updateEnvelope_nout (c : SoundChip) (q : Params) : (c.updateEnvelope q).nout = c.nout := by
  unfold SoundChip.updateEnvelope; split <;> rfl
@[simp] theorem SoundChip.updateEnvelope_nperiod (c : SoundChip) (q : Params) : (c.updateEnvelope q).nperiod = c.nperiod := by
  unfold SoundChip.updateEnvelope; split <;> rfl
@[simp] theorem SoundChip.updateEnvelope_obuf (c : SoundChip) (q : Params) : (c.updateEnvelope q).obuf = c.obuf := by
  unfold SoundChip.updateEnvelope; split <;> rfl

/-- A tone update counts one tone update and leaves the tick counter (R371). -/
@[simp] theorem SoundChip.toneUpdate_stick (c : SoundChip) (q : Params) : (c.toneUpdate q).stick = c.stick := by
  unfold SoundChip.toneUpdate; dsimp only; split <;> simp [SoundChip.updateChannels]
@[simp] theorem SoundChip.toneUpdate_scount (c : SoundChip) (q : Params) : (c.toneUpdate q).scount = c.scount + 1 := by
  unfold SoundChip.toneUpdate; dsimp only; split <;> simp [SoundChip.updateChannels]

/-- Everything `produceSample` can do: append one sample, or raise OVERRUN (R390, R393). -/
theorem produceSample_cases (s : State) :
    (s.psg.obuf.length < s.params.bufferCapacity ∧ produceSample s = .running
      ((s.emit (.sample s.psg.sample.left s.psg.sample.right)).setPsg
        { s.psg.clearAcc with obuf := s.psg.obuf ++ [s.psg.sample] })) ∨
    (s.params.bufferCapacity ≤ s.psg.obuf.length ∧
      produceSample s = .ended (s.raiseFault (.overrun .sampleBuffer))) := by
  unfold produceSample
  split
  · rename_i h; exact .inl ⟨h, rfl⟩
  · rename_i h; exact .inr ⟨by omega, rfl⟩

theorem produceSample_obeys (s : State) : (produceSample s).obeys SoundOnly s := by
  rcases produceSample_cases s with ⟨_, h⟩ | ⟨_, h⟩ <;> rw [h]
  · exact ⟨⟨rfl, rfl, rfl, rfl, rfl, rfl, rfl, rfl, rfl, rfl, rfl, rfl, rfl, rfl, rfl, rfl, rfl, rfl, rfl, rfl,
      [s.psg.sample], rfl, rfl⟩, rfl⟩
  · exact ⟨.raise _ _, rfl⟩

/-- The SoundChip's half of a CLOCK changes the SoundChip and appends samples, nothing else (R371). -/
theorem soundOnClock_obeys (s : State) : (soundOnClock s).obeys SoundOnly s := by
  unfold soundOnClock
  have h0 : SoundOnly s (s.setPsg s.psg.tick) := .of_psg s _ s.psg.tick_same
  dsimp only
  split
  · have hk := s.psg.tick.toneUpdate_same s.params
    have h1 : SoundOnly (s.setPsg s.psg.tick) ((s.setPsg s.psg.tick).setPsg (s.psg.tick.toneUpdate s.params)) :=
      .of_psg _ _ hk
    split
    · exact Flow.obeys_from SoundOnly.trans (.trans _ _ _ h0 h1) rfl
        (Flow.obeys_andThen SoundOnly.trans (produceSample_obeys _) fun t _ _ => ⟨.of_psg _ _ (t.psg.setScount_same 0), rfl⟩)
    · exact ⟨.trans _ _ _ h0 h1, rfl⟩
  · exact ⟨h0, rfl⟩

/-- With room in the buffer the SoundChip's half raises nothing. -/
theorem soundOnClock_runs {s : State} (h : s.psg.obuf.length < s.params.bufferCapacity) :
    ∃ t, soundOnClock s = .running t := by
  unfold soundOnClock
  dsimp only
  split
  · split
    · rcases produceSample_cases ((s.setPsg s.psg.tick).setPsg (s.psg.tick.toneUpdate s.params)) with ⟨_, h2⟩ | ⟨h1, _⟩
      · simp only [State.setPsg_psg, State.setPsg_params] at h2 ⊢
        rw [h2]; exact ⟨_, rfl⟩
      · simp only [State.setPsg_psg, State.setPsg_params, (s.psg.tick.toneUpdate_same s.params).obuf] at h1
        exact absurd h (by simpa [SoundChip.tick] using h1)
    · exact ⟨_, rfl⟩
  · exact ⟨_, rfl⟩

/-- A tick between tone updates (R371). -/
theorem soundOnClock_between {s : State} (h : (s.psg.stick + 1) % 16 % 8 ≠ 0) :
    soundOnClock s = .running (s.setPsg s.psg.tick) := by
  unfold soundOnClock; dsimp only; rw [if_neg]; exact h

/-- A tick that makes a tone update (R371). -/
theorem soundOnClock_tone {s : State} (h : (s.psg.stick + 1) % 16 % 8 = 0) :
    soundOnClock s =
      if s.psg.scount + 1 = s.params.sampleDecimation then
        (produceSample (s.setPsg (s.psg.tick.toneUpdate s.params))).andThen
          fun s => .running (s.setPsg { s.psg with scount := 0 })
      else .running (s.setPsg (s.psg.tick.toneUpdate s.params)) := by
  unfold soundOnClock
  dsimp only
  rw [if_pos (by exact h)]
  simp only [State.setPsg_psg, State.setPsg_params, SoundChip.toneUpdate_scount]
  rfl

/-- The countdowns as arithmetic (R215). -/
theorem SyncTimer.countH_eq (t : SyncTimer) : t.countH = { t with
    hcount := if t.inH then t.hcount - 1 else t.hcount
    inH := t.inH && decide (1 < t.hcount) } := by
  unfold SyncTimer.countH
  cases h : t.inH
  · cases t; simp_all
  · have : (if t.hcount - 1 = 0 then false else true) = decide (1 < t.hcount) := by
      split <;> simp <;> omega
    simp [this]

theorem SyncTimer.countV_eq (t : SyncTimer) : t.countV = { t with
    vcount := if t.inV then t.vcount - 1 else t.vcount
    inV := t.inV && decide (1 < t.vcount) } := by
  unfold SyncTimer.countV
  cases h : t.inV
  · cases t; simp_all
  · have : (if t.vcount - 1 = 0 then false else true) = decide (1 < t.vcount) := by
      split <;> simp <;> omega
    simp [this]

/-! The forms of the SyncTimer's half, each under the registers it reads and the counters it advances. -/

theorem clockColumn_runs {s : State} (hw : s.holds (.crtcReg s.params.crtcIndex.ht)) (hc : s.sync.col ≤ s.ht) :
    clockColumn s = .running (s.setSync { s.sync with col := s.sync.col + 1 }) := by
  have hw' : (s.setSync { s.sync with col := s.sync.col + 1 }).holds (.crtcReg s.params.crtcIndex.ht) := hw
  unfold clockColumn
  dsimp only [State.setSync_params]
  rw [reading_written hw', if_neg]
  show ¬ s.ht + 1 < s.sync.col + 1
  omega

theorem SyncTimer.countH_setCol (t : SyncTimer) (n : Nat) :
    ({ t with col := n } : SyncTimer).countH = { t.countH with col := n } := by
  unfold SyncTimer.countH; dsimp only; split <;> rfl

/-- Entering hsync with the width written (R42, R188). -/
theorem enterHsync_written {s : State} (h : s.holds .hw) :
    enterHsync s = palOnHsync ((s.setSync { s.sync with inH := true, hcount := s.sync.hw }).emit .hsync) := by
  have h' : (s.setSync { s.sync with inH := true }).holds .hw := h
  unfold enterHsync; rw [reading_written h']; rfl

/-- Entering hsync with the width unwritten: UNWRITTEN, with the flag already written (R14, R441). -/
theorem enterHsync_unwritten {s : State} (h : isUnwritten s .hw = true) :
    enterHsync s = .ended ((s.setSync { s.sync with inH := true }).raiseFault (.unwritten .hw)) := by
  have h' : isUnwritten (s.setSync { s.sync with inH := true }) .hw = true := h
  unfold enterHsync; rw [reading_unwritten h']

/-- Entering vsync with the width written (R42, R188). -/
theorem enterVsync_written {s : State} (h : s.holds .vw) :
    enterVsync s =
      .running (palOnVsync ((s.setSync { s.sync with inV := true, vcount := s.sync.vw }).emit .vsync)) := by
  have h' : (s.setSync { s.sync with inV := true }).holds .vw := h
  unfold enterVsync; rw [reading_written h']; rfl

/-- Entering vsync with the width unwritten: UNWRITTEN, with the flag already written (R14, R441). -/
theorem enterVsync_unwritten {s : State} (h : isUnwritten s .vw = true) :
    enterVsync s = .ended ((s.setSync { s.sync with inV := true }).raiseFault (.unwritten .vw)) := by
  have h' : isUnwritten (s.setSync { s.sync with inV := true }) .vw = true := h
  unfold enterVsync; rw [reading_unwritten h']

/-- A tick inside a scanline ends in the hsync test, after the countdown (R215). -/
theorem syncOnClock_inside {s : State} (hw : s.holds (.crtcReg s.params.crtcIndex.ht)) (hc : s.sync.col < s.ht) :
    syncOnClock s = hsyncTest (s.setSync { s.sync.countH with col := s.sync.col + 1 }) := by
  have hh : (s.setSync { s.sync.countH with col := s.sync.col + 1 }).ht = s.ht := by simp [State.ht, State.crtc]
  unfold syncOnClock
  rw [clockColumn_runs hw (by omega), Flow.andThen_running]
  simp only [State.setSync_sync, SyncTimer.countH_setCol]
  rw [show ((s.setSync { s.sync with col := s.sync.col + 1 }).setSync
      { s.sync.countH with col := s.sync.col + 1 }) = s.setSync { s.sync.countH with col := s.sync.col + 1 } from rfl]
  rw [hh, if_neg (by omega)]

/-- The hsync test inside a scanline, where HSP is written: the palette's listener runs on the state with the pulse
loaded, unless the width is unwritten; or nothing starts (R215). -/
theorem syncOnClock_hsyncTest {s : State} (hw : s.holds (.crtcReg s.params.crtcIndex.ht)) (hc : s.sync.col < s.ht)
    (hp : s.holds (.crtcReg s.params.crtcIndex.hsp)) :
    syncOnClock s =
      if s.hsyncStarts then
        enterHsync (s.setSync { s.sync.countH with col := s.sync.col + 1 })
      else .running (s.setSync { s.sync.countH with col := s.sync.col + 1 }) := by
  have hp' : (s.setSync { s.sync.countH with col := s.sync.col + 1 }).holds (.crtcReg s.params.crtcIndex.hsp) := hp
  have hs : (s.setSync { s.sync.countH with col := s.sync.col + 1 }).hsp = s.hsp := by simp [State.hsp, State.crtc]
  have hi : s.sync.countH.inH = false ↔ ¬ (s.sync.inH = true ∧ 1 < s.sync.hcount) := by
    rw [SyncTimer.countH_eq]; simp
  rw [syncOnClock_inside hw hc]
  unfold hsyncTest
  dsimp only [State.setSync_params]
  rw [reading_written hp', hs]
  simp only [State.setSync_sync, hi]

/-- A tick inside a scanline with no hsync start (R215). -/
theorem syncOnClock_mid {s : State} (hw : s.holds (.crtcReg s.params.crtcIndex.ht)) (hc : s.sync.col < s.ht)
    (hp : s.holds (.crtcReg s.params.crtcIndex.hsp)) (hn : ¬ s.hsyncStarts) :
    syncOnClock s = .running (s.setSync { s.sync.countH with col := s.sync.col + 1 }) := by
  rw [syncOnClock_hsyncTest hw hc hp, if_neg hn]

/-- A tick inside a scanline that starts hsync: the listener runs on the state with the pulse loaded (R215). -/
theorem syncOnClock_hsync {s : State} (hw : s.holds (.crtcReg s.params.crtcIndex.ht)) (hc : s.sync.col < s.ht)
    (hp : s.holds (.crtcReg s.params.crtcIndex.hsp)) (hn : s.hsyncStarts) (hh : s.holds .hw) :
    syncOnClock s = palOnHsync
      ((s.setSync { s.sync with col := s.sync.col + 1, inH := true, hcount := s.sync.hw }).emit .hsync) := by
  rw [syncOnClock_hsyncTest hw hc hp, if_pos hn]
  rw [enterHsync_written (s := s.setSync { s.sync.countH with col := s.sync.col + 1 }) hh]
  congr 2
  simp only [State.setSync, SyncTimer.countH]
  split <;> rfl

/-- A tick that ends a scanline: the line and row counters, then the vsync test (R215). -/
theorem syncOnClock_end {s : State} (hw : s.holds (.crtcReg s.params.crtcIndex.ht)) (hc : s.sync.col = s.ht) :
    syncOnClock s = (clockLine (s.setSync { s.sync.countH.countV with col := 0 })).andThen vsyncTest := by
  have hh : (s.setSync { s.sync.countH with col := s.sync.col + 1 }).ht = s.ht := by simp [State.ht, State.crtc]
  have hv : ({ s.sync.countH with col := 0 } : SyncTimer).countV = { s.sync.countH.countV with col := 0 } := by
    unfold SyncTimer.countV; dsimp only; split <;> rfl
  unfold syncOnClock
  rw [clockColumn_runs hw (by omega), Flow.andThen_running]
  simp only [State.setSync_sync, SyncTimer.countH_setCol]
  rw [show ((s.setSync { s.sync with col := s.sync.col + 1 }).setSync
      { s.sync.countH with col := s.sync.col + 1 }) = s.setSync { s.sync.countH with col := s.sync.col + 1 } from rfl]
  rw [hh, if_pos (by simp [hc])]
  unfold endOfScanline
  simp only [State.setSync_sync, hv]
  rfl

/-- The scanline counters at an end of scanline: the next line, the next row, or row 0 (R215). VT is read only where the
line wraps. -/
theorem clockLine_runs {s : State} (hm : s.holds (.crtcReg s.params.crtcIndex.mra)) (hl : s.sync.line ≤ s.mra)
    (hr : s.sync.line = s.mra → s.holds (.crtcReg s.params.crtcIndex.vt) ∧ s.sync.row ≤ s.vt) :
    clockLine s = .running (s.setSync { s.sync with line := s.nextLine, row := s.nextRow }) := by
  have hm1 : (s.setSync { s.sync with line := s.sync.line + 1 }).holds (.crtcReg s.params.crtcIndex.mra) := hm
  have hme : (s.setSync { s.sync with line := s.sync.line + 1 }).mra = s.mra := rfl
  unfold clockLine State.nextLine State.nextRow
  dsimp only [State.setSync_params]
  rw [reading_written hm1]
  simp only [hme, State.setSync_sync]
  rw [if_neg (by omega)]
  by_cases h : s.sync.line = s.mra
  · rw [if_pos (by omega), if_pos h, if_pos h]
    obtain ⟨hv, hrow⟩ := hr h
    have hv2 : ((s.setSync { s.sync with line := s.sync.line + 1 }).setSync
        { s.sync with line := 0, row := s.sync.row + 1 }).holds (.crtcReg s.params.crtcIndex.vt) := hv
    unfold clockRow
    dsimp only [State.setSync_sync, State.setSync_params]
    rw [reading_written hv2]
    show (if s.vt + 1 < s.sync.row + 1 then _ else if s.sync.row + 1 = s.vt + 1 then _ else _) = _
    rw [if_neg (by omega)]
    by_cases h2 : s.sync.row = s.vt
    · rw [if_pos h2, if_pos (by omega)]; rfl
    · rw [if_neg h2, if_neg (by omega)]; rfl
  · rw [if_neg (by omega), if_neg h, if_neg h]

/-- The vsync test (R217): it starts vsync or does nothing, where VSP is written if it is compared and the width if a
pulse starts. -/
theorem vsyncTest_runs {s : State}
    (hp : (s.params.vsyncCheck = .perScanline ∨ s.sync.line = 0) → s.sync.inV = false →
      s.holds (.crtcReg s.params.crtcIndex.vsp) ∧ (s.sync.row = s.vsp → s.holds .vw)) :
    vsyncTest s = .running (
      if (s.params.vsyncCheck = .perScanline ∨ s.sync.line = 0) ∧ s.sync.inV = false ∧ s.sync.row = s.vsp then
        { s with
          sync := { s.sync with inV := true, vcount := s.sync.vw }
          pal := { s.pal with vdelay := 2 }
          trace := s.trace ++ [.vsync] }
      else s) := by
  unfold vsyncTest
  by_cases h1 : s.params.vsyncCheck = .perScanline ∨ s.sync.line = 0
  · rw [if_pos h1]
    by_cases h2 : s.sync.inV = true
    · rw [if_pos h2, if_neg (by simp [h2])]
    · obtain ⟨hv, hw⟩ := hp h1 (by simpa using h2)
      rw [if_neg h2, reading_written hv]
      by_cases h3 : s.sync.row = s.vsp
      · rw [if_pos h3, if_pos ⟨h1, by simpa using h2, h3⟩]
        rw [enterVsync_written (hw h3)]
        rfl
      · rw [if_neg h3, if_neg (by simp [h3])]
  · rw [if_neg h1, if_neg (by simp [h1])]

/-- The SyncTimer's half at an end of scanline, where it raises nothing (R215, R217, R262). -/
theorem syncOnClock_end_runs {s : State} (h : s.timingRuns) (hc : s.sync.col = s.ht) :
    let enters : Bool := (s.params.vsyncCheck = .perScanline ∨ s.nextLine = 0) ∧
      (s.sync.inV && decide (1 < s.sync.vcount)) = false ∧ s.nextRow = s.vsp
    syncOnClock s = .running { s with
      sync := { s.sync with
        col := 0, line := s.nextLine, row := s.nextRow
        hcount := if s.sync.inH then s.sync.hcount - 1 else s.sync.hcount
        inH := s.sync.inH && decide (1 < s.sync.hcount)
        vcount := if enters then s.sync.vw else if s.sync.inV then s.sync.vcount - 1 else s.sync.vcount
        inV := (s.sync.inV && decide (1 < s.sync.vcount)) || enters }
      pal := { s.pal with vdelay := if enters then 2 else s.pal.vdelay }
      trace := s.trace ++ (if enters then [.vsync] else []) } := by
  intro enters
  obtain ⟨hw, -, -, he⟩ := h
  obtain ⟨hm, hl, hr, hv⟩ := he hc
  obtain ⟨x, hx⟩ : ∃ x : SyncTimer, x = { s.sync with
      col := 0
      hcount := if s.sync.inH then s.sync.hcount - 1 else s.sync.hcount
      inH := s.sync.inH && decide (1 < s.sync.hcount)
      vcount := if s.sync.inV then s.sync.vcount - 1 else s.sync.vcount
      inV := s.sync.inV && decide (1 < s.sync.vcount) } := ⟨_, rfl⟩
  have e : ({ s.sync.countH.countV with col := 0 } : SyncTimer) = x := by
    rw [SyncTimer.countV_eq, SyncTimer.countH_eq, hx]
  rw [syncOnClock_end hw hc, e]
  rw [clockLine_runs (s := s.setSync x) (by subst hx; exact hm) (by subst hx; exact hl) (by subst hx; exact hr),
    Flow.andThen_running]
  rw [vsyncTest_runs (s := (s.setSync x).setSync _) (by subst hx; exact fun h1 h2 => hv ⟨h1, by simpa using h2⟩)]
  subst hx
  cases hb : enters with
  | true =>
    have hb' := of_decide_eq_true hb
    refine congrArg Flow.running ((if_pos hb').trans ?_)
    simp only [hb'.2.1, Bool.false_or, if_true]
    rfl
  | false =>
    have hb' := of_decide_eq_false hb
    refine congrArg Flow.running ((if_neg hb').trans ?_)
    simp only [Bool.or_false, Bool.false_eq_true, if_false, List.append_nil]
    rfl

/-- The SyncTimer's half of a tick that starts hsync, where it raises nothing (R215, R260). -/
theorem syncOnClock_hsync_runs {s : State} (h : s.timingRuns) (hc : s.sync.col < s.ht) (hn : s.hsyncStarts) :
    let fires : Bool := (s.pal.vdelay = 0 ∧ s.pal.icount + 1 = 52) ∨ (s.pal.vdelay = 1 ∧ 32 ≤ s.pal.icount + 1)
    syncOnClock s = .running { s with
      sync := { s.sync with col := s.sync.col + 1, hcount := s.sync.hw, inH := true }
      pal := { s.pal with
        icount := if s.pal.vdelay = 1 ∨ (s.pal.vdelay = 0 ∧ s.pal.icount + 1 = 52) then 0 else s.pal.icount + 1
        vdelay := s.pal.vdelay - 1 }
      irq := s.irq || fires
      trace := s.trace ++ [.hsync] ++ (if fires then [.irqSet] else []) } := by
  intro fires
  obtain ⟨hw, -, hi, -⟩ := h
  obtain ⟨hp, hi⟩ := hi hc
  obtain ⟨hh, hi⟩ := hi hn
  rw [syncOnClock_hsync hw hc hp hn hh]
  rcases palOnHsync_cases
      ((s.setSync { s.sync with col := s.sync.col + 1, inH := true, hcount := s.sync.hw }).emit .hsync)
    with ⟨h1, h2, h⟩ | ⟨h1, h2, h⟩ | ⟨h1, h2, h⟩ | ⟨h1, h2, h⟩ | ⟨h1, h2, h⟩ | ⟨h1, h⟩ <;>
    simp only [State.emit_pal, State.setSync_pal] at h1 h <;> try simp only [State.emit_pal, State.setSync_pal] at h2
  · have := hi h1; omega
  · have hf : fires = true := by simp [fires, h1, h2]
    rw [h]; simp [h1, h2, hf, State.setSync, State.emit]
  · have hf : fires = false := by simp [fires, h1]; omega
    rw [h]; simp [h1, hf, State.setSync, State.emit, State.setPal]; omega
  · have hf : fires = true := by simp [fires, h1]; omega
    rw [h]; simp [h1, hf, State.setSync, State.emit]
  · have hf : fires = false := by simp [fires, h1]; omega
    rw [h]; simp [h1, hf, State.setSync, State.emit, State.setPal]
  · have hf : fires = false := by simp [fires]; omega
    rw [h]; simp [hf, State.setSync, State.emit, State.setPal]; omega

/-- Where the SyncTimer's half raises nothing it runs, and appends no SAMPLE event (R215). -/
theorem syncOnClock_runs {s : State} (h : s.timingRuns) :
    ∃ t l, syncOnClock s = .running t ∧ TimingOnly s t ∧ t.faultMark = s.faultMark ∧ t.trace = s.trace ++ l ∧
      ∀ x y, Event.sample x y ∉ l := by
  have ho := syncOnClock_obeys s
  suffices k : ∃ t l, syncOnClock s = .running t ∧ t.trace = s.trace ++ l ∧ ∀ x y, Event.sample x y ∉ l by
    obtain ⟨t, l, e, ht⟩ := k
    rw [e] at ho
    exact ⟨t, l, e, ho.1, ho.2, ht⟩
  rcases Nat.lt_or_ge s.sync.col s.ht with hc | hc
  · by_cases hn : s.hsyncStarts
    · refine ⟨_, _, syncOnClock_hsync_runs h hc hn, List.append_assoc .., fun x y => ?_⟩
      split <;> simp
    · exact ⟨_, [], syncOnClock_mid h.1 hc (h.2.2.1 hc).1 hn, by simp, by simp⟩
  · refine ⟨_, _, syncOnClock_end_runs h (Nat.le_antisymm h.2.1 hc), rfl, fun x y => ?_⟩
    split <;> simp

/-- Where no sample is due into a full buffer the SoundChip's half runs; it appends one sample where one is due. -/
theorem soundOnClock_runs_of_fits {s : State} (h : s.sampleFits) :
    ∃ c l, l.length = (if s.sampleDue then 1 else 0) ∧
      soundOnClock s = .running { s with psg := c, trace := s.trace ++ sampleEvents l } := by
  by_cases h8 : (s.psg.stick + 1) % 16 % 8 = 0
  · rw [soundOnClock_tone h8]
    by_cases hd : s.psg.scount + 1 = s.params.sampleDecimation
    · rw [if_pos hd, if_pos (show s.sampleDue from ⟨h8, hd⟩)]
      have hr : s.psg.obuf.length < s.params.bufferCapacity := h ⟨h8, hd⟩
      rcases produceSample_cases (s.setPsg (s.psg.tick.toneUpdate s.params)) with ⟨_, h2⟩ | ⟨h1, _⟩
      · rw [h2, Flow.andThen_running]
        exact ⟨_, [(s.psg.tick.toneUpdate s.params).sample], rfl, rfl⟩
      · simp only [State.setPsg_psg, State.setPsg_params, (s.psg.tick.toneUpdate_same s.params).obuf] at h1
        exact absurd hr (by simpa [SoundChip.tick] using h1)
    · rw [if_neg hd, if_neg (show ¬ s.sampleDue from fun h => hd h.2)]
      exact ⟨s.psg.tick.toneUpdate s.params, [], rfl, by simp [sampleEvents, State.setPsg]⟩
  · rw [soundOnClock_between h8, if_neg (show ¬ s.sampleDue from fun h => h8 h.1)]
    exact ⟨s.psg.tick, [], rfl, by simp [sampleEvents, State.setPsg]⟩

/-- A state whose counters are in range raises nothing in the SyncTimer's half. -/
theorem State.timingReady.runs {s : State} (h : s.timingReady) : s.timingRuns := by
  obtain ⟨-, hw, ⟨hc, hl, hr⟩, -, hi⟩ := h
  simp only [State.timingWritten, List.forall_mem_cons] at hw
  obtain ⟨w1, w2, w3, w4, w5, w6, w7, -⟩ := hw
  exact ⟨w1, hc, fun _ => ⟨w2, fun _ => ⟨w6, hi⟩⟩, fun _ => ⟨w3, hl, fun _ => ⟨w4, hr⟩, fun _ => ⟨w5, fun _ => w7⟩⟩⟩

theorem TimingOnly.sampleDue {s t : State} (h : TimingOnly s t) : t.sampleDue = s.sampleDue := by
  unfold State.sampleDue; rw [h.psg, h.params]

theorem TimingOnly.sampleFits {s t : State} (h : TimingOnly s t) : t.sampleFits = s.sampleFits := by
  unfold State.sampleFits State.bufferHasRoom; rw [h.sampleDue, h.psg, h.params]

theorem execClock_eq {s : State} (hf : s.faultMark = none) :
    exec .clock s = .next ((syncOnClock s).andThen soundOnClock).state := by
  show execClock s = _
  unfold execClock; rw [stimulus_running hf]

/-- A CLOCK that raises nothing: the state after the SyncTimer's half, with the SoundChip advanced and its sample, if one
is due, emitted (R186). -/
theorem execClock_of_sync {s t : State} (h : s.clockRuns) (hs : syncOnClock s = .running t) :
    ∃ c l, l.length = (if s.sampleDue then 1 else 0) ∧
      exec .clock s = .next { t with psg := c, trace := t.trace ++ sampleEvents l } := by
  have ho := syncOnClock_obeys s
  rw [hs] at ho
  obtain ⟨c, l, hl, e⟩ := soundOnClock_runs_of_fits (s := t) (by rw [ho.1.sampleFits]; exact h.2.2)
  refine ⟨c, l, ?_, by rw [execClock_eq h.1, hs, Flow.andThen_running, e]; rfl⟩
  rw [hl]
  exact if_congr (iff_of_eq ho.1.sampleDue) rfl rfl

end Sys2Proof.Machine
end

