-- ==== Sys2Proof/Laws/Memory.lean ====
section
/-! SUPPORT. RAM: read after write, and that every memory operation keeps the canonical form (20_memory.md R93 to R101;
log 6). -/

namespace Sys2Proof.Machine

/-! Reading after writing. -/

theorem Memory.read_write_same (m : Memory) (a : Nat) (v : Byte) : (m.write a v).read a = some v := by
  induction m with
  | nil => simp [Memory.write, Memory.read]
  | cons c m ih =>
    obtain ⟨b, u⟩ := c
    simp only [Memory.write]
    split
    · simp [Memory.read]
    · split
      · simp [Memory.read]
      · rename_i h1 h2
        simp [Memory.read, Ne.symm h2, ih]

theorem Memory.read_write_other (m : Memory) (a b : Nat) (v : Byte) (h : b ≠ a) : (m.write a v).read b = m.read b := by
  induction m with
  | nil => simp [Memory.write, Memory.read, Ne.symm h]
  | cons c m ih =>
    obtain ⟨e, u⟩ := c
    simp only [Memory.write]
    split
    · simp [Memory.read, Ne.symm h]
    · split
      · rename_i h1 h2
        subst h2
        simp [Memory.read, Ne.symm h]
      · simp only [Memory.read, ih]

/-! The canonical form. -/

theorem Memory.risesFrom_write (m : Memory) (lo a : Nat) (v : Byte) (h : Memory.risesFrom lo m = true) (hlo : lo ≤ a) :
    Memory.risesFrom lo (m.write a v) = true := by
  induction m generalizing lo with
  | nil => simp [Memory.write, Memory.risesFrom, hlo]
  | cons c m ih =>
    obtain ⟨e, u⟩ := c
    simp only [Memory.risesFrom, Bool.and_eq_true, decide_eq_true_eq] at h
    simp only [Memory.write]
    split
    · rename_i h1
      simp only [Memory.risesFrom, Bool.and_eq_true, decide_eq_true_eq]
      exact ⟨hlo, h1, h.2⟩
    · split
      · rename_i h1 h2
        subst h2
        simp [Memory.risesFrom, hlo, h.2]
      · rename_i h1 h2
        simp only [Memory.risesFrom, Bool.and_eq_true, decide_eq_true_eq]
        exact ⟨h.1, ih (e + 1) h.2 (by omega)⟩

theorem Memory.all_write (m : Memory) (n a : Nat) (v : Byte) (h : m.all (fun c => decide (c.1 < n)) = true)
    (ha : a < n) : (m.write a v).all (fun c => decide (c.1 < n)) = true := by
  induction m with
  | nil => simp [Memory.write, ha]
  | cons c m ih =>
    obtain ⟨e, u⟩ := c
    simp only [List.all_cons, Bool.and_eq_true, decide_eq_true_eq] at h
    simp only [Memory.write]
    split
    · simp only [List.all_cons, Bool.and_eq_true, decide_eq_true_eq]
      exact ⟨ha, h⟩
    · split
      · simp only [List.all_cons, Bool.and_eq_true, decide_eq_true_eq]
        exact ⟨ha, h.2⟩
      · simp only [List.all_cons, Bool.and_eq_true, decide_eq_true_eq]
        exact ⟨h.1, ih h.2⟩

theorem Memory.wf_write (m : Memory) (a : Nat) (v : Byte) (h : m.wf = true) (ha : a < ramSize) :
    (m.write a v).wf = true := by
  simp only [Memory.wf, Bool.and_eq_true] at h ⊢
  exact ⟨Memory.risesFrom_write m 0 a v h.1 (Nat.zero_le a), Memory.all_write m ramSize a v h.2 ha⟩

theorem Memory.risesFrom_weaken (m : Memory) (lo lo' : Nat) (h : Memory.risesFrom lo m = true) (hle : lo' ≤ lo) :
    Memory.risesFrom lo' m = true := by
  cases m with
  | nil => rfl
  | cons c m =>
    simp only [Memory.risesFrom, Bool.and_eq_true, decide_eq_true_eq] at h ⊢
    exact ⟨by omega, h.2⟩

/-- Dropping the addresses below `n` keeps the rise, and what is left starts at `n` at the lowest. -/
theorem Memory.risesFrom_filter (m : Memory) (lo n : Nat) (h : Memory.risesFrom lo m = true) :
    Memory.risesFrom (max lo n) (m.filter (fun c => decide (n ≤ c.1))) = true := by
  induction m generalizing lo with
  | nil => rfl
  | cons c m ih =>
    obtain ⟨e, u⟩ := c
    simp only [Memory.risesFrom, Bool.and_eq_true, decide_eq_true_eq] at h
    simp only [List.filter_cons]
    split
    · rename_i hn
      simp only [decide_eq_true_eq] at hn
      simp only [Memory.risesFrom, Bool.and_eq_true, decide_eq_true_eq]
      have := ih (e + 1) h.2
      rw [Nat.max_eq_left (by omega)] at this
      exact ⟨by omega, this⟩
    · exact Memory.risesFrom_weaken _ _ _ (ih (e + 1) h.2) (by omega)

/-- Consecutive cells followed by cells that rise from their end rise. -/
theorem Memory.risesFrom_cellsFrom (bs : List Byte) (a : Nat) (m : Memory)
    (h : Memory.risesFrom (a + bs.length) m = true) : Memory.risesFrom a (cellsFrom a bs ++ m) = true := by
  induction bs generalizing a with
  | nil => simpa [cellsFrom] using h
  | cons b bs ih =>
    simp only [cellsFrom, List.cons_append, Memory.risesFrom, Bool.and_eq_true, decide_eq_true_eq]
    refine ⟨le_refl a, ih (a + 1) ?_⟩
    simpa [Nat.add_assoc, Nat.add_comm 1] using h

theorem cellsFrom_below (bs : List Byte) (a n : Nat) (h : a + bs.length ≤ n) :
    (cellsFrom a bs).all (fun c => decide (c.1 < n)) = true := by
  induction bs generalizing a with
  | nil => rfl
  | cons b bs ih =>
    simp only [List.length_cons] at h
    simp only [cellsFrom, List.all_cons, Bool.and_eq_true, decide_eq_true_eq]
    exact ⟨by omega, ih (a + 1) (by omega)⟩

theorem Memory.wf_bulk (m : Memory) (bs : List Byte) (h : m.wf = true) (hl : bs.length ≤ ramSize) :
    Memory.wf (cellsFrom 0 bs ++ m.filter (fun c => decide (bs.length ≤ c.1))) = true := by
  simp only [Memory.wf, Bool.and_eq_true] at h ⊢
  refine ⟨Memory.risesFrom_cellsFrom bs 0 _ ?_, ?_⟩
  · exact Memory.risesFrom_weaken _ _ _ (Memory.risesFrom_filter m 0 bs.length h.1) (by omega)
  · simp only [List.all_append, Bool.and_eq_true]
    refine ⟨cellsFrom_below bs 0 ramSize (by omega), ?_⟩
    simp only [List.all_eq_true] at h ⊢
    exact fun c hc => h.2 c (List.mem_of_mem_filter hc)

/-- The cells of consecutive bytes read back as those bytes, and as nothing outside them. -/
theorem read_cellsFrom_append (bs : List Byte) (a b : Nat) (m : Memory) :
    Memory.read (cellsFrom a bs ++ m) b =
      if h : a ≤ b ∧ b - a < bs.length then some (bs[b - a]'h.2) else Memory.read m b := by
  induction bs generalizing a with
  | nil => simp [cellsFrom]
  | cons x bs ih =>
    simp only [cellsFrom, List.cons_append, Memory.read]
    by_cases hab : a = b
    · subst hab; simp
    · rw [if_neg hab, ih (a + 1)]
      by_cases h : a ≤ b ∧ b - a < (x :: bs).length
      · have h' : a + 1 ≤ b ∧ b - (a + 1) < bs.length := by
          simp only [List.length_cons] at h; omega
        rw [dif_pos h, dif_pos h']
        have : b - a = (b - (a + 1)) + 1 := by omega
        simp [this]
      · have h' : ¬ (a + 1 ≤ b ∧ b - (a + 1) < bs.length) := by
          simp only [List.length_cons] at h; omega
        rw [dif_neg h, dif_neg h']

theorem Memory.read_filter (m : Memory) (n b : Nat) (h : n ≤ b) :
    Memory.read (m.filter (fun c => decide (n ≤ c.1))) b = Memory.read m b := by
  induction m with
  | nil => rfl
  | cons c m ih =>
    obtain ⟨e, u⟩ := c
    simp only [List.filter_cons]
    split
    · simp only [Memory.read, ih]
    · rename_i hn
      simp only [decide_eq_true_eq] at hn
      simp only [Memory.read, ih]
      rw [if_neg (by omega)]

theorem reset_memory_wf : State.reset.mem.ram.wf = true := rfl

/-! Addresses. -/

theorem ramAddress_lt (s : State) (a : Addr) : ramAddress s a < ramSize := by
  unfold ramAddress ramSize
  have h1 := ((s.params.bankTable[s.mem.bankCfg])[(window a).toNat]'(window a).isLt).isLt
  have h2 := (offset a).isLt
  omega

theorem window_toNat (a : Addr) : (window a).toNat = a.toNat / 0x4000 := by
  have := a.isLt
  simp [window, BitVec.extractLsb'_toNat, Nat.shiftRight_eq_div_pow]
  omega

theorem offset_toNat (a : Addr) : (offset a).toNat = a.toNat % 0x4000 := by
  simp [offset, BitVec.extractLsb'_toNat]

/-- What a store does to every byte of RAM (R95). -/
theorem ramByte_memWriteByte (s : State) (a : Addr) (v : Byte) (b : Nat) :
    ramByte (memWriteByte s a v) b = if b = ramAddress s a then v else ramByte s b := by
  unfold ramByte memWriteByte
  simp only [State.setMem_mem]
  by_cases h : b = ramAddress s a
  · subst h; simp [Memory.read_write_same]
  · simp [Memory.read_write_other _ _ _ _ h, h]

end Sys2Proof.Machine
end

