-- ==== Sys2Proof/Laws/Operands.lean ====
section
/-! SUPPORT. Operand fields as numbers, and how a write changes what is unwritten. -/

namespace Sys2Proof.Machine

/-! Fields of a byte (R140). -/

theorem lowNibble_toNat (d : Byte) : (lowNibble d).toNat = d.toNat % 16 := by
  simp [lowNibble, BitVec.extractLsb'_toNat]

theorem highNibble_toNat (d : Byte) : (highNibble d).toNat = d.toNat / 16 := by
  have := d.isLt
  simp [highNibble, BitVec.extractLsb'_toNat, Nat.shiftRight_eq_div_pow]
  omega

theorem fromNibbles_toNat (hi lo : BitVec 4) : (fromNibbles hi lo).toNat = hi.toNat * 16 + lo.toNat := by
  have := lo.isLt
  rw [fromNibbles, BitVec.toNat_append, Nat.shiftLeft_eq, ← Nat.shiftLeft_eq, ← Nat.shiftLeft_add_eq_or_of_lt this,
    Nat.shiftLeft_eq]

theorem colourOf_toNat (d : Byte) : (colourOf d).toNat = d.toNat % 32 := by
  simp [colourOf, BitVec.extractLsb'_toNat]

theorem screenModeOf_toNat (d : Byte) : (screenModeOf d).toNat = d.toNat % 4 := by
  simp [screenModeOf, BitVec.extractLsb'_toNat]

theorem groupAMode_toNat (d : Byte) : (groupAMode d).toNat = d.toNat / 32 % 4 := by
  simp [groupAMode, BitVec.extractLsb'_toNat, Nat.shiftRight_eq_div_pow]

theorem bsrIndex_toNat (d : Byte) : (bsrIndex d).toNat = d.toNat / 2 % 8 := by
  simp [bsrIndex, BitVec.extractLsb'_toNat, Nat.shiftRight_eq_div_pow]

theorem penOf_val (d : Byte) : (penOf d).val = if d.getLsbD 4 then 16 else d.toNat % 16 := by
  unfold penOf
  split <;> simp [lowNibble_toNat]

theorem width16_toNat (n : BitVec 4) : width16 n = if n.toNat = 0 then 16 else n.toNat := by
  unfold width16
  by_cases h : n = 0
  · subst h; rfl
  · rw [if_neg h, if_neg fun h0 => h (BitVec.eq_of_toNat_eq (by simpa using h0))]

theorem max1_eq_max (p : Nat) : max1 p = max 1 p := by unfold max1; split <;> omega

/-- The bits of a latch after a bit set or reset (R304). -/
theorem setBit_getLsbD (v : Byte) (n : BitVec 3) (b : Bool) (k : Nat) (hk : k < 8) :
    (setBit v n b).getLsbD k = if k = n.toNat then b else v.getLsbD k := by
  unfold setBit
  have hn := n.isLt
  cases b
  · simp only [Bool.false_eq_true, if_false, BitVec.getLsbD_and, BitVec.getLsbD_not, BitVec.getLsbD_shiftLeft,
      BitVec.getLsbD_one]
    split
    · rename_i h; subst h; simp
    · rename_i h
      rcases Nat.lt_or_ge k n.toNat with h1 | h1
      · simp [hk, h1]
      · simp [hk, show ¬ k < n.toNat by omega, show k - n.toNat ≠ 0 by omega]
  · simp only [if_true, BitVec.getLsbD_or, BitVec.getLsbD_shiftLeft, BitVec.getLsbD_one]
    split
    · rename_i h; subst h; simp [hk]
    · rename_i h
      rcases Nat.lt_or_ge k n.toNat with h1 | h1
      · simp [h1]
      · simp [show ¬ k < n.toNat by omega, show k - n.toNat ≠ 0 by omega]

/-- `icount & ~0x20` as arithmetic (R264). -/
theorem clearBit5_eq (n : Nat) : clearBit5 n = if n / 32 % 2 = 1 then n - 32 else n := by
  unfold clearBit5
  rw [Nat.testBit_eq_decide_div_mod_eq]
  simp

/-- `(rng + 1) & 2` is not 0 exactly when bits 1 and 0 differ (R375). -/
theorem togglesNoise_eq (rng : BitVec 17) : togglesNoise rng = (rng.getLsbD 1 != rng.getLsbD 0) := by
  have h1 : ((rng + 1) &&& 2) = 0 ↔ (rng.toNat + 1) / 2 % 2 = 0 := by
    rw [← BitVec.toNat_inj, BitVec.toNat_and]
    have e : (rng + 1).toNat = (rng.toNat + 1) % 2 ^ 17 := by simp [BitVec.toNat_add]
    rw [e]
    have : ((rng.toNat + 1) % 2 ^ 17) &&& 2 = ((rng.toNat + 1) / 2 % 2) * 2 := by
      have h := Nat.and_two_pow ((rng.toNat + 1) % 2 ^ 17) 1
      simp only [pow_one] at h
      rw [h, Nat.testBit_eq_decide_div_mod_eq]
      have : (rng.toNat + 1) % 2 ^ 17 / 2 ^ 1 % 2 = (rng.toNat + 1) / 2 % 2 := by omega
      rw [this]
      rcases Nat.mod_two_eq_zero_or_one ((rng.toNat + 1) / 2) with h | h <;> simp [h]
    have e2 : (2 : BitVec 17).toNat = 2 := by decide
    have e0 : (0 : BitVec 17).toNat = 0 := by decide
    rw [e2, e0, this]
    omega
  have b (i : Nat) : rng.getLsbD i = decide (rng.toNat / 2 ^ i % 2 = 1) := by
    unfold BitVec.getLsbD; exact Nat.testBit_eq_decide_div_mod_eq
  have h : togglesNoise rng = !decide ((rng.toNat + 1) / 2 % 2 = 0) := by
    unfold togglesNoise
    by_cases c : (rng.toNat + 1) / 2 % 2 = 0
    · simp only [h1.mpr c, c, decide_true, Bool.not_true]; decide
    · have : ((rng + 1) &&& 2) ≠ 0 := fun e => c (h1.mp e)
      simp only [c, decide_false, Bool.not_false]
      exact bne_iff_ne.mpr this
  rw [h, b 1, b 0]
  have h2 := Nat.mod_two_eq_zero_or_one (rng.toNat / 2)
  have h3 := Nat.mod_two_eq_zero_or_one rng.toNat
  simp only [pow_zero, Nat.div_one, pow_one]
  rcases h2 with h2 | h2 <;> rcases h3 with h3 | h3 <;> simp only [h2, h3] <;>
    simp <;> omega

/-! Register writes of the SoundChip (R336). -/

/-- Whatever register is written, only its byte changes in the register file, and the selection and the bus function
stay. -/
theorem SoundChip.writeReg_regs (c : SoundChip) (q : Params) (i : Fin 16) (v : Byte) :
    (c.writeReg q i v).regs = c.regs.set i (v &&& q.psgMask[i]) ∧ (c.writeReg q i v).psgSel = c.psgSel ∧
    (c.writeReg q i v).psgFn = c.psgFn ∧ (c.writeReg q i v).obuf = c.obuf ∧ (c.writeReg q i v).rng = c.rng ∧
    (c.writeReg q i v).stick = c.stick ∧ (c.writeReg q i v).scount = c.scount := by
  unfold SoundChip.writeReg SoundChip.recompute
  fin_cases i <;> exact ⟨rfl, rfl, rfl, rfl, rfl, rfl, rfl⟩

/-! What is unwritten after an update (R490). -/

theorem isUnwritten_markWritten (s : State) (c x : Component) (hh : c ≠ .hw) (hv : c ≠ .vw) :
    isUnwritten (s.markWritten x) c = (isUnwritten s c && decide (c ≠ x)) := by
  unfold isUnwritten State.markWritten
  cases c <;> simp_all [List.contains_eq_mem, List.mem_filter, Bool.and_assoc]

@[simp] theorem isUnwritten_setSync (s : State) (x : SyncTimer) (c : Component) :
    isUnwritten (s.setSync x) c = isUnwritten s c := rfl
@[simp] theorem isUnwritten_setPal (s : State) (x : Palette) (c : Component) :
    isUnwritten (s.setPal x) c = isUnwritten s c := rfl

end Sys2Proof.Machine
end

