-- ==== Sys2Proof/Laws/PerInstr.lean ====
section
/-! SUPPORT. The per-instruction family: the word an instruction encodes to lies in its own row of the opcode table
(30_encoding.md R141), for every well-formed instruction of the reference profile. Each port condition of R133 and each
function code of R135, R136 and R138 is turned into the bits it fixes (R134). -/

namespace Sys2Proof.Laws

open Sys2Proof

/-! Words, bit by bit. -/

theorem busWord_and (cls : BitVec 2) (wr : Bool) (p pc : Addr) (d dc : Byte) :
    busWord cls wr p d &&& busWord 3 true pc dc = busWord cls wr (p &&& pc) (d &&& dc) := by
  unfold busWord
  rw [BitVec.and_append, BitVec.and_append, BitVec.and_append]
  congr 3
  · revert cls; decide
  · cases wr <;> rfl

/-- A bus word lies in a row when the address and the data byte carry the row's bits. -/
theorem accepts_bus {r : Row} {cls : BitVec 2} {wr : Bool} {p pc pm : Addr} {d dc dm : Byte}
    (hc : r.care = busWord 3 true pc dc) (hm : r.pattern = busWord cls wr pm dm) (hp : p &&& pc = pm)
    (hd : d &&& dc = dm) : r.accepts (busWord cls wr p d) = true := by
  unfold Row.accepts
  rw [hc, hm, busWord_and, hp, hd, beq_self_eq_true]

theorem kindWord_and (k : BitVec 4) (d dc : Byte) :
    kindWord k d &&& ((3 : BitVec 2) ++ (0x1FFF : BitVec 13) ++ (0xF : BitVec 4) ++ dc) = kindWord k (d &&& dc) := by
  unfold kindWord
  rw [BitVec.and_append, BitVec.and_append, BitVec.and_append]
  congr 2
  revert k; decide

/-- A class-10 word lies in a row when its argument byte carries the row's bits. -/
theorem accepts_kind {r : Row} {k : BitVec 4} {d dc dm : Byte}
    (hc : r.care = (3 : BitVec 2) ++ (0x1FFF : BitVec 13) ++ (0xF : BitVec 4) ++ dc) (hm : r.pattern = kindWord k dm)
    (hd : d &&& dc = dm) : r.accepts (kindWord k d) = true := by
  unfold Row.accepts
  rw [hc, hm, kindWord_and, hd, beq_self_eq_true]

theorem and_eq_of_bits {n : Nat} {x c m : BitVec n} (h : ∀ i < n, (x.getLsbD i && c.getLsbD i) = m.getLsbD i) :
    x &&& c = m :=
  BitVec.eq_of_getLsbD_eq fun i hi => by rw [BitVec.getLsbD_and]; exact h i hi

theorem byte_and_zero (d : Byte) : d &&& 0x00 = 0x00 := by simp

theorem zero_and_ones : (0 : Byte) &&& 0xFF = 0x00 := by decide

theorem addr_and_zero (a : Addr) : a &&& 0x0000 = 0x0000 := by simp

/-! The bits of a port by device (R134). -/

/-- The bits each device fixes, most significant first (R133). -/
theorem device_bits (p : Addr) :
    (device p = .pal → p.getLsbD 15 = false ∧ p.getLsbD 14 = true) ∧
    (device p = .ramcfg → p.getLsbD 15 = false ∧ p.getLsbD 14 = false) ∧
    (device p = .crtc → p.getLsbD 15 = true ∧ p.getLsbD 14 = false) ∧
    (device p = .romsel → p.getLsbD 15 = true ∧ p.getLsbD 14 = true ∧ p.getLsbD 13 = false) ∧
    (device p = .printer → p.getLsbD 15 = true ∧ p.getLsbD 14 = true ∧ p.getLsbD 13 = true ∧
      p.getLsbD 12 = false) ∧
    (device p = .ppi → p.getLsbD 15 = true ∧ p.getLsbD 14 = true ∧ p.getLsbD 13 = true ∧ p.getLsbD 12 = true ∧
      p.getLsbD 11 = false) ∧
    (device p = .expansion → p.getLsbD 15 = true ∧ p.getLsbD 14 = true ∧ p.getLsbD 13 = true ∧
      p.getLsbD 12 = true ∧ p.getLsbD 11 = true ∧ p.getLsbD 10 = false) ∧
    (device p = .unknown → p.getLsbD 15 = true ∧ p.getLsbD 14 = true ∧ p.getLsbD 13 = true ∧
      p.getLsbD 12 = true ∧ p.getLsbD 11 = true ∧ p.getLsbD 10 = true) := by
  unfold device
  cases p.getLsbD 15 <;> cases p.getLsbD 14 <;> cases p.getLsbD 13 <;> cases p.getLsbD 12 <;>
    cases p.getLsbD 11 <;> cases p.getLsbD 10 <;> decide

theorem port_pal {p : Addr} (h : device p = .pal) : p &&& 0xC000 = 0x4000 := by
  obtain ⟨h15, h14⟩ := (device_bits p).1 h
  refine and_eq_of_bits fun i hi => ?_
  interval_cases i <;> simp [*, -BitVec.getLsbD_eq_getElem]

theorem port_ramcfg {p : Addr} (h : device p = .ramcfg) : p &&& 0xC000 = 0x0000 := by
  obtain ⟨h15, h14⟩ := (device_bits p).2.1 h
  refine and_eq_of_bits fun i hi => ?_
  interval_cases i <;> simp [*, -BitVec.getLsbD_eq_getElem]

theorem port_romsel {p : Addr} (h : device p = .romsel) : p &&& 0xE000 = 0xC000 := by
  obtain ⟨h15, h14, h13⟩ := (device_bits p).2.2.2.1 h
  refine and_eq_of_bits fun i hi => ?_
  interval_cases i <;> simp [*, -BitVec.getLsbD_eq_getElem]

theorem port_printer {p : Addr} (h : device p = .printer) : p &&& 0xF000 = 0xE000 := by
  obtain ⟨h15, h14, h13, h12⟩ := (device_bits p).2.2.2.2.1 h
  refine and_eq_of_bits fun i hi => ?_
  interval_cases i <;> simp [*, -BitVec.getLsbD_eq_getElem]

theorem port_expansion {p : Addr} (h : device p = .expansion) : p &&& 0xFC00 = 0xF800 := by
  obtain ⟨h15, h14, h13, h12, h11, h10⟩ := (device_bits p).2.2.2.2.2.2.1 h
  refine and_eq_of_bits fun i hi => ?_
  interval_cases i <;> simp [*, -BitVec.getLsbD_eq_getElem]

theorem port_unknown {p : Addr} (h : device p = .unknown) : p &&& 0xFC00 = 0xFC00 := by
  obtain ⟨h15, h14, h13, h12, h11, h10⟩ := (device_bits p).2.2.2.2.2.2.2 h
  refine and_eq_of_bits fun i hi => ?_
  interval_cases i <;> simp [*, -BitVec.getLsbD_eq_getElem]

/-! The function fields (R135, R136, R138). -/

theorem portFn_bits {p : Addr} {v : BitVec 2} (h : portFn p = v) :
    p.getLsbD 8 = v.getLsbD 0 ∧ p.getLsbD 9 = v.getLsbD 1 := by
  subst h; unfold portFn; simp

theorem dataFn_bits {d : Byte} {v : BitVec 2} (h : dataFn d = v) :
    d.getLsbD 6 = v.getLsbD 0 ∧ d.getLsbD 7 = v.getLsbD 1 := by
  subst h; unfold dataFn; simp

theorem port_crtc_select {p : Addr} (h : onCrtc Params.reference .select p = true) : p &&& 0xC300 = 0x8000 := by
  simp only [onCrtc, Bool.and_eq_true, beq_iff_eq] at h
  obtain ⟨h15, h14⟩ := (device_bits p).2.2.1 h.1
  have hv : ∀ v : BitVec 2, Params.reference.crtcFn[v.toNat]'v.isLt = .select → v = 0 := by decide
  obtain ⟨h8, h9⟩ := portFn_bits (hv _ h.2)
  refine and_eq_of_bits fun i hi => ?_
  interval_cases i <;> simp [*, -BitVec.getLsbD_eq_getElem]

theorem port_crtc_write {p : Addr} (h : onCrtc Params.reference .write p = true) : p &&& 0xC300 = 0x8100 := by
  simp only [onCrtc, Bool.and_eq_true, beq_iff_eq] at h
  obtain ⟨h15, h14⟩ := (device_bits p).2.2.1 h.1
  have hv : ∀ v : BitVec 2, Params.reference.crtcFn[v.toNat]'v.isLt = .write → v = 1 := by decide
  obtain ⟨h8, h9⟩ := portFn_bits (hv _ h.2)
  refine and_eq_of_bits fun i hi => ?_
  interval_cases i <;> simp [*, -BitVec.getLsbD_eq_getElem]

theorem port_crtc_status {p : Addr} (h : onCrtc Params.reference .status p = true) : p &&& 0xC300 = 0x8200 := by
  simp only [onCrtc, Bool.and_eq_true, beq_iff_eq] at h
  obtain ⟨h15, h14⟩ := (device_bits p).2.2.1 h.1
  have hv : ∀ v : BitVec 2, Params.reference.crtcFn[v.toNat]'v.isLt = .status → v = 2 := by decide
  obtain ⟨h8, h9⟩ := portFn_bits (hv _ h.2)
  refine and_eq_of_bits fun i hi => ?_
  interval_cases i <;> simp [*, -BitVec.getLsbD_eq_getElem]

theorem port_crtc_read {p : Addr} (h : onCrtc Params.reference .read p = true) : p &&& 0xC300 = 0x8300 := by
  simp only [onCrtc, Bool.and_eq_true, beq_iff_eq] at h
  obtain ⟨h15, h14⟩ := (device_bits p).2.2.1 h.1
  have hv : ∀ v : BitVec 2, Params.reference.crtcFn[v.toNat]'v.isLt = .read → v = 3 := by decide
  obtain ⟨h8, h9⟩ := portFn_bits (hv _ h.2)
  refine and_eq_of_bits fun i hi => ?_
  interval_cases i <;> simp [*, -BitVec.getLsbD_eq_getElem]

theorem port_ppi_portA {p : Addr} (h : onPpi Params.reference .portA p = true) : p &&& 0xFB00 = 0xF000 := by
  simp only [onPpi, Bool.and_eq_true, beq_iff_eq] at h
  obtain ⟨h15, h14, h13, h12, h11⟩ := (device_bits p).2.2.2.2.2.1 h.1
  have hv : ∀ v : BitVec 2, Params.reference.ppiFn[v.toNat]'v.isLt = .portA → v = 0 := by decide
  obtain ⟨h8, h9⟩ := portFn_bits (hv _ h.2)
  refine and_eq_of_bits fun i hi => ?_
  interval_cases i <;> simp [*, -BitVec.getLsbD_eq_getElem]

theorem port_ppi_portB {p : Addr} (h : onPpi Params.reference .portB p = true) : p &&& 0xFB00 = 0xF100 := by
  simp only [onPpi, Bool.and_eq_true, beq_iff_eq] at h
  obtain ⟨h15, h14, h13, h12, h11⟩ := (device_bits p).2.2.2.2.2.1 h.1
  have hv : ∀ v : BitVec 2, Params.reference.ppiFn[v.toNat]'v.isLt = .portB → v = 1 := by decide
  obtain ⟨h8, h9⟩ := portFn_bits (hv _ h.2)
  refine and_eq_of_bits fun i hi => ?_
  interval_cases i <;> simp [*, -BitVec.getLsbD_eq_getElem]

theorem port_ppi_portC {p : Addr} (h : onPpi Params.reference .portC p = true) : p &&& 0xFB00 = 0xF200 := by
  simp only [onPpi, Bool.and_eq_true, beq_iff_eq] at h
  obtain ⟨h15, h14, h13, h12, h11⟩ := (device_bits p).2.2.2.2.2.1 h.1
  have hv : ∀ v : BitVec 2, Params.reference.ppiFn[v.toNat]'v.isLt = .portC → v = 2 := by decide
  obtain ⟨h8, h9⟩ := portFn_bits (hv _ h.2)
  refine and_eq_of_bits fun i hi => ?_
  interval_cases i <;> simp [*, -BitVec.getLsbD_eq_getElem]

theorem port_ppi_control {p : Addr} (h : onPpi Params.reference .control p = true) : p &&& 0xFB00 = 0xF300 := by
  simp only [onPpi, Bool.and_eq_true, beq_iff_eq] at h
  obtain ⟨h15, h14, h13, h12, h11⟩ := (device_bits p).2.2.2.2.2.1 h.1
  have hv : ∀ v : BitVec 2, Params.reference.ppiFn[v.toNat]'v.isLt = .control → v = 3 := by decide
  obtain ⟨h8, h9⟩ := portFn_bits (hv _ h.2)
  refine and_eq_of_bits fun i hi => ?_
  interval_cases i <;> simp [*, -BitVec.getLsbD_eq_getElem]

theorem data_pal_selectPen {p : Addr} {d : Byte} (h : onPal Params.reference .selectPen p d = true) :
    p &&& 0xC000 = 0x4000 ∧ d &&& 0xC0 = 0x00 := by
  simp only [onPal, Bool.and_eq_true, beq_iff_eq] at h
  have hv : ∀ v : BitVec 2, Params.reference.palFn[v.toNat]'v.isLt = .selectPen → v = 0 := by decide
  obtain ⟨h6, h7⟩ := dataFn_bits (hv _ h.2)
  refine ⟨port_pal h.1, and_eq_of_bits fun i hi => ?_⟩
  interval_cases i <;> simp [*, -BitVec.getLsbD_eq_getElem]

theorem data_pal_setColour {p : Addr} {d : Byte} (h : onPal Params.reference .setColour p d = true) :
    p &&& 0xC000 = 0x4000 ∧ d &&& 0xC0 = 0x40 := by
  simp only [onPal, Bool.and_eq_true, beq_iff_eq] at h
  have hv : ∀ v : BitVec 2, Params.reference.palFn[v.toNat]'v.isLt = .setColour → v = 1 := by decide
  obtain ⟨h6, h7⟩ := dataFn_bits (hv _ h.2)
  refine ⟨port_pal h.1, and_eq_of_bits fun i hi => ?_⟩
  interval_cases i <;> simp [*, -BitVec.getLsbD_eq_getElem]

theorem data_pal_modeRom {p : Addr} {d : Byte} (h : onPal Params.reference .modeRom p d = true) :
    p &&& 0xC000 = 0x4000 ∧ d &&& 0xC0 = 0x80 := by
  simp only [onPal, Bool.and_eq_true, beq_iff_eq] at h
  have hv : ∀ v : BitVec 2, Params.reference.palFn[v.toNat]'v.isLt = .modeRom → v = 2 := by decide
  obtain ⟨h6, h7⟩ := dataFn_bits (hv _ h.2)
  refine ⟨port_pal h.1, and_eq_of_bits fun i hi => ?_⟩
  interval_cases i <;> simp [*, -BitVec.getLsbD_eq_getElem]

theorem data_pal_bank {p : Addr} {d : Byte} (h : onPal Params.reference .bank p d = true) :
    p &&& 0xC000 = 0x4000 ∧ d &&& 0xC0 = 0xC0 := by
  simp only [onPal, Bool.and_eq_true, beq_iff_eq] at h
  have hv : ∀ v : BitVec 2, Params.reference.palFn[v.toNat]'v.isLt = .bank → v = 3 := by decide
  obtain ⟨h6, h7⟩ := dataFn_bits (hv _ h.2)
  refine ⟨port_pal h.1, and_eq_of_bits fun i hi => ?_⟩
  interval_cases i <;> simp [*, -BitVec.getLsbD_eq_getElem]

theorem data_modeSet {d : Byte} (h : isModeSet d = true) : d &&& 0x80 = 0x80 := by
  have h7 : d.getLsbD 7 = true := h
  refine and_eq_of_bits fun i hi => ?_
  interval_cases i <;> simp [*, -BitVec.getLsbD_eq_getElem]

theorem data_bitSet {d : Byte} (h : isModeSet d = false) : d &&& 0x80 = 0x00 := by
  have h7 : d.getLsbD 7 = false := h
  refine and_eq_of_bits fun i hi => ?_
  interval_cases i <;> simp [*, -BitVec.getLsbD_eq_getElem]

/-! The family. -/

/-- The word a well-formed instruction encodes to lies in the instruction's row of the opcode table (R141). -/
def EncodedWordMatchesRow.Statement (i : Instr) : Prop :=
  i.wellFormed Params.reference = true → i.row.accepts (encodeWord i) = true

theorem EncodedWordMatchesRow.palPen (p : Addr) (d : Byte) :
    EncodedWordMatchesRow.Statement (.palPen p d) :=
  fun h => accepts_bus rfl rfl (data_pal_selectPen h).1 (data_pal_selectPen h).2

theorem EncodedWordMatchesRow.palColour (p : Addr) (d : Byte) :
    EncodedWordMatchesRow.Statement (.palColour p d) :=
  fun h => accepts_bus rfl rfl (data_pal_setColour h).1 (data_pal_setColour h).2

theorem EncodedWordMatchesRow.palModeRom (p : Addr) (d : Byte) :
    EncodedWordMatchesRow.Statement (.palModeRom p d) :=
  fun h => accepts_bus rfl rfl (data_pal_modeRom h).1 (data_pal_modeRom h).2

theorem EncodedWordMatchesRow.palBank (p : Addr) (d : Byte) :
    EncodedWordMatchesRow.Statement (.palBank p d) :=
  fun h => accepts_bus rfl rfl (data_pal_bank h).1 (data_pal_bank h).2

theorem EncodedWordMatchesRow.ramcfgWr (p : Addr) (d : Byte) :
    EncodedWordMatchesRow.Statement (.ramcfgWr p d) :=
  fun h => accepts_bus rfl rfl (port_ramcfg (beq_iff_eq.mp h)) (byte_and_zero d)

theorem EncodedWordMatchesRow.romselWr (p : Addr) (d : Byte) :
    EncodedWordMatchesRow.Statement (.romselWr p d) :=
  fun h => accepts_bus rfl rfl (port_romsel (beq_iff_eq.mp h)) (byte_and_zero d)

theorem EncodedWordMatchesRow.printerWr (p : Addr) (d : Byte) :
    EncodedWordMatchesRow.Statement (.printerWr p d) :=
  fun h => accepts_bus rfl rfl (port_printer (beq_iff_eq.mp h)) (byte_and_zero d)

theorem EncodedWordMatchesRow.expWr (p : Addr) (d : Byte) :
    EncodedWordMatchesRow.Statement (.expWr p d) :=
  fun h => accepts_bus rfl rfl (port_expansion (beq_iff_eq.mp h)) (byte_and_zero d)

theorem EncodedWordMatchesRow.unknownWr (p : Addr) (d : Byte) :
    EncodedWordMatchesRow.Statement (.unknownWr p d) :=
  fun h => accepts_bus rfl rfl (port_unknown (beq_iff_eq.mp h)) (byte_and_zero d)

theorem EncodedWordMatchesRow.crtcSelect (p : Addr) (d : Byte) :
    EncodedWordMatchesRow.Statement (.crtcSelect p d) :=
  fun h => accepts_bus rfl rfl (port_crtc_select h) (byte_and_zero d)

theorem EncodedWordMatchesRow.crtcWrite (p : Addr) (d : Byte) :
    EncodedWordMatchesRow.Statement (.crtcWrite p d) :=
  fun h => accepts_bus rfl rfl (port_crtc_write h) (byte_and_zero d)

theorem EncodedWordMatchesRow.crtcWrFn2 (p : Addr) (d : Byte) :
    EncodedWordMatchesRow.Statement (.crtcWrFn2 p d) :=
  fun h => accepts_bus rfl rfl (port_crtc_status h) (byte_and_zero d)

theorem EncodedWordMatchesRow.crtcWrFn3 (p : Addr) (d : Byte) :
    EncodedWordMatchesRow.Statement (.crtcWrFn3 p d) :=
  fun h => accepts_bus rfl rfl (port_crtc_read h) (byte_and_zero d)

theorem EncodedWordMatchesRow.ppiAWr (p : Addr) (d : Byte) :
    EncodedWordMatchesRow.Statement (.ppiAWr p d) :=
  fun h => accepts_bus rfl rfl (port_ppi_portA h) (byte_and_zero d)

theorem EncodedWordMatchesRow.ppiBWr (p : Addr) (d : Byte) :
    EncodedWordMatchesRow.Statement (.ppiBWr p d) :=
  fun h => accepts_bus rfl rfl (port_ppi_portB h) (byte_and_zero d)

theorem EncodedWordMatchesRow.ppiCWr (p : Addr) (d : Byte) :
    EncodedWordMatchesRow.Statement (.ppiCWr p d) :=
  fun h => accepts_bus rfl rfl (port_ppi_portC h) (byte_and_zero d)

theorem EncodedWordMatchesRow.ppiCtrlMode (p : Addr) (d : Byte) :
    EncodedWordMatchesRow.Statement (.ppiCtrlMode p d) :=
  fun h => accepts_bus rfl rfl (port_ppi_control (Bool.and_eq_true _ _ ▸ h).1)
    (data_modeSet (Bool.and_eq_true _ _ ▸ h).2)

theorem EncodedWordMatchesRow.ppiCtrlBsr (p : Addr) (d : Byte) :
    EncodedWordMatchesRow.Statement (.ppiCtrlBsr p d) :=
  fun h => accepts_bus rfl rfl (port_ppi_control (Bool.and_eq_true _ _ ▸ h).1)
    (data_bitSet ((Bool.not_eq_true' _) ▸ (Bool.and_eq_true _ _ ▸ h).2))

theorem EncodedWordMatchesRow.palRd (p : Addr) :
    EncodedWordMatchesRow.Statement (.palRd p) :=
  fun h => accepts_bus rfl rfl (port_pal (beq_iff_eq.mp h)) zero_and_ones

theorem EncodedWordMatchesRow.ramcfgRd (p : Addr) :
    EncodedWordMatchesRow.Statement (.ramcfgRd p) :=
  fun h => accepts_bus rfl rfl (port_ramcfg (beq_iff_eq.mp h)) zero_and_ones

theorem EncodedWordMatchesRow.romselRd (p : Addr) :
    EncodedWordMatchesRow.Statement (.romselRd p) :=
  fun h => accepts_bus rfl rfl (port_romsel (beq_iff_eq.mp h)) zero_and_ones

theorem EncodedWordMatchesRow.printerRd (p : Addr) :
    EncodedWordMatchesRow.Statement (.printerRd p) :=
  fun h => accepts_bus rfl rfl (port_printer (beq_iff_eq.mp h)) zero_and_ones

theorem EncodedWordMatchesRow.expRd (p : Addr) :
    EncodedWordMatchesRow.Statement (.expRd p) :=
  fun h => accepts_bus rfl rfl (port_expansion (beq_iff_eq.mp h)) zero_and_ones

theorem EncodedWordMatchesRow.unknownRd (p : Addr) :
    EncodedWordMatchesRow.Statement (.unknownRd p) :=
  fun h => accepts_bus rfl rfl (port_unknown (beq_iff_eq.mp h)) zero_and_ones

theorem EncodedWordMatchesRow.crtcRdFn0 (p : Addr) :
    EncodedWordMatchesRow.Statement (.crtcRdFn0 p) :=
  fun h => accepts_bus rfl rfl (port_crtc_select h) zero_and_ones

theorem EncodedWordMatchesRow.crtcRdFn1 (p : Addr) :
    EncodedWordMatchesRow.Statement (.crtcRdFn1 p) :=
  fun h => accepts_bus rfl rfl (port_crtc_write h) zero_and_ones

theorem EncodedWordMatchesRow.crtcStatusRd (p : Addr) :
    EncodedWordMatchesRow.Statement (.crtcStatusRd p) :=
  fun h => accepts_bus rfl rfl (port_crtc_status h) zero_and_ones

theorem EncodedWordMatchesRow.crtcRead (p : Addr) :
    EncodedWordMatchesRow.Statement (.crtcRead p) :=
  fun h => accepts_bus rfl rfl (port_crtc_read h) zero_and_ones

theorem EncodedWordMatchesRow.ppiARd (p : Addr) :
    EncodedWordMatchesRow.Statement (.ppiARd p) :=
  fun h => accepts_bus rfl rfl (port_ppi_portA h) zero_and_ones

theorem EncodedWordMatchesRow.ppiBRd (p : Addr) :
    EncodedWordMatchesRow.Statement (.ppiBRd p) :=
  fun h => accepts_bus rfl rfl (port_ppi_portB h) zero_and_ones

theorem EncodedWordMatchesRow.ppiCRd (p : Addr) :
    EncodedWordMatchesRow.Statement (.ppiCRd p) :=
  fun h => accepts_bus rfl rfl (port_ppi_portC h) zero_and_ones

theorem EncodedWordMatchesRow.ppiCtrlRd (p : Addr) :
    EncodedWordMatchesRow.Statement (.ppiCtrlRd p) :=
  fun h => accepts_bus rfl rfl (port_ppi_control h) zero_and_ones

theorem EncodedWordMatchesRow.memRead (a : Addr) :
    EncodedWordMatchesRow.Statement (.memRead a) :=
  fun _ => accepts_bus rfl rfl (addr_and_zero a) zero_and_ones

theorem EncodedWordMatchesRow.memWrite (a : Addr) (v : Byte) :
    EncodedWordMatchesRow.Statement (.memWrite a v) :=
  fun _ => accepts_bus rfl rfl (addr_and_zero a) (byte_and_zero v)

theorem EncodedWordMatchesRow.clock :
    EncodedWordMatchesRow.Statement .clock :=
  fun _ => accepts_kind rfl rfl zero_and_ones

theorem EncodedWordMatchesRow.intack :
    EncodedWordMatchesRow.Statement .intack :=
  fun _ => accepts_kind rfl rfl zero_and_ones

theorem EncodedWordMatchesRow.reset :
    EncodedWordMatchesRow.Statement .reset :=
  fun _ => accepts_kind rfl rfl zero_and_ones

theorem EncodedWordMatchesRow.queryVsync :
    EncodedWordMatchesRow.Statement .queryVsync :=
  fun _ => accepts_kind rfl rfl zero_and_ones

theorem EncodedWordMatchesRow.audioFlush :
    EncodedWordMatchesRow.Statement .audioFlush :=
  fun _ => accepts_kind rfl rfl zero_and_ones

theorem EncodedWordMatchesRow.setTiming (t : TimingRecord) :
    EncodedWordMatchesRow.Statement (.setTiming t) :=
  fun _ => accepts_kind rfl rfl zero_and_ones

theorem EncodedWordMatchesRow.restoreIrqCounters (t : IrqRecord) :
    EncodedWordMatchesRow.Statement (.restoreIrqCounters t) :=
  fun _ => accepts_kind rfl rfl zero_and_ones

theorem EncodedWordMatchesRow.psgHostSelect (r : Byte) :
    EncodedWordMatchesRow.Statement (.psgHostSelect r) :=
  fun _ => accepts_kind rfl rfl (byte_and_zero r)

theorem EncodedWordMatchesRow.psgHostWrite (v : Byte) :
    EncodedWordMatchesRow.Statement (.psgHostWrite v) :=
  fun _ => accepts_kind rfl rfl (byte_and_zero v)

theorem EncodedWordMatchesRow.setIrqLine (b : Bool) :
    EncodedWordMatchesRow.Statement (.setIrqLine b) :=
  fun _ => accepts_kind rfl rfl (by cases b <;> rfl : (if b then 1 else 0 : Byte) &&& 0xFE = 0x00)

end Sys2Proof.Laws
end

