-- ==== Sys2Proof/Laws/Reset.lean ====
section
/-! SUPPORT. What RESET does, said once: each chip's component after it, and what it keeps (46_host_ops.md R410,
70_reset_and_hazards.md R481 to R485, R490). -/

namespace Sys2Proof.Machine

@[simp] theorem resetAll_params (s : State) : (resetAll s).params = s.params := by
  simp [resetAll, resetWritten, resetMemory, resetPpi, resetPalette, resetSync, resetSound]
@[simp] theorem resetAll_trace (s : State) : (resetAll s).trace = s.trace := by
  simp [resetAll, resetWritten, resetMemory, resetPpi, resetPalette, resetSync, resetSound]
@[simp] theorem resetAll_faultMark (s : State) : (resetAll s).faultMark = s.faultMark := by
  simp [resetAll, resetWritten, resetMemory, resetPpi, resetPalette, resetSync, resetSound]
@[simp] theorem resetAll_refusalMark (s : State) : (resetAll s).refusalMark = s.refusalMark := by
  simp [resetAll, resetWritten, resetMemory, resetPpi, resetPalette, resetSync, resetSound]
@[simp] theorem resetAll_pending (s : State) : (resetAll s).pending = s.pending := by
  simp [resetAll, resetWritten, resetMemory, resetPpi, resetPalette, resetSync, resetSound]
@[simp] theorem resetAll_returned (s : State) : (resetAll s).returned = s.returned := by
  simp [resetAll, resetWritten, resetMemory, resetPpi, resetPalette, resetSync, resetSound]
@[simp] theorem resetAll_draws (s : State) : (resetAll s).draws = s.draws + 1 := by
  simp [resetAll, resetWritten, resetMemory, resetPpi, resetPalette, resetSync, resetSound]
@[simp] theorem resetAll_irq (s : State) : (resetAll s).irq = false := by
  simp [resetAll, resetWritten, resetMemory, resetPpi, resetPalette, resetSync, resetSound]
@[simp] theorem resetAll_ppi (s : State) : (resetAll s).ppi = Ppi.reset := by
  simp [resetAll, resetWritten, resetMemory, resetPpi, resetPalette, resetSync, resetSound]
@[simp] theorem resetAll_psg (s : State) : (resetAll s).psg = SoundChip.reset (envLevel s.params 0 0) := by
  simp [resetAll, resetWritten, resetMemory, resetPpi, resetPalette, resetSync, resetSound]
@[simp] theorem resetAll_mem (s : State) : (resetAll s).mem =
    { s.mem with bankCfg := 0, upperRomSel := 0, ram := [], ramEpoch := s.draws } := by
  simp [resetAll, resetWritten, resetMemory, resetPpi, resetPalette, resetSync, resetSound]
@[simp] theorem resetAll_sync (s : State) : (resetAll s).sync = (resetSync s).sync := by
  simp [resetAll, resetWritten, resetMemory, resetPpi, resetPalette, resetSync, resetSound]
@[simp] theorem resetAll_pal (s : State) : (resetAll s).pal = (resetPalette s).pal := by
  simp [resetAll, resetWritten, resetMemory, resetPpi, resetPalette, resetSync, resetSound]
@[simp] theorem resetAll_unwritten (s : State) :
    (resetAll s).unwritten = if s.params.resetUnknown = .fault then unknownAtReset else [] := by
  simp [resetAll, resetWritten, resetMemory, resetPpi, resetPalette, resetSync, resetSound]
  congr


/-! The SyncTimer: drawn registers under their masks, the widths recomputed from R[SW], the counters at 0 (R482). -/

theorem resetSync_reg (s : State) (i : Fin 18) :
    (resetSync s).sync.regs[i] = Config.drawCrtcReg s.draws i &&& s.params.crtcMask[i] := by
  simp [resetSync]

/-- After RESET the widths agree with R[SW] and no pulse runs (R37, R41, R482). -/
theorem resetAll_widthsAgree (s : State) : (resetAll s).widthsAgree ∧ (resetAll s).pulsesAgree := by
  unfold State.widthsAgree State.pulsesAgree State.crtc
  rw [resetAll_sync, resetAll_params]
  simp [resetSync, SyncTimer.withWidths]

end Sys2Proof.Machine
end

