-- ==== Sys2Proof/Tests/Slice0.lean ====
section
/-! SUPPORT. Tests of the model, each a small closed fact. Expected results come from the spec: the decode table of
95_test_vectors.md 2.1 and 2.2, the vectors named in each comment, or the rules' own examples. -/

namespace Sys2Proof.Tests

open Sys2Proof Sys2Proof.Machine

/-- The state a step answers; `State.reset` if it answers none. -/
def after (o : Host.Outcome State Fault Refusal) : State :=
  match o with
  | .next s => s
  | _ => State.reset

/-- The test values of 00_scope.md R9 for the OPEN parameters, with room for four samples. -/
def testParams : Params :=
  { Params.reference with
    volumeTable := #v[0, 1, 2, 3, 4, 5, 6, 7, 8, 9, 10, 11, 12, 13, 14, 15]
    sampleDecimation := 3
    bufferCapacity := 4 }

/-- The state of the tests: reset, with the test values. -/
def start : State := { State.reset with params := testParams }

/-- Set-up T1 of 95_test_vectors.md: HT 3, HSP 2, SW 0x21, MRA 1, VT 2, VSP 1. -/
def t1 : State :=
  { start with sync := { start.sync with
      regs := #v[3, 0, 2, 0x21, 2, 0, 0, 1, 0, 1, 0, 0, 0, 0, 0, 0, 0, 0], hw := 1, vw := 2 } }

/-- What the decoder reads from a word, in the reference profile. -/
def read (w : StimWord) : Except IllegalWord Instr := decode Params.reference (Stimulus.ofWord w)

/-! Parameters: the reference profile and the test profile meet the constraints of the rules. -/

theorem test_reference_distinct : Params.reference.crtcIndex.distinct = true := by decide
theorem test_testParams_wf : testParams.wf = true := by decide

/-! WellFormed smoke: for each check a term it refuses (30_encoding.md R133 to R138). -/

theorem test_wf_refuses_wrong_device :
    [Instr.palRd 0xBC00, .ramcfgWr 0x7F00 0, .ramcfgRd 0x7F00, .romselWr 0xE000 0, .romselRd 0xE000,
     .printerWr 0xDF00 0, .printerRd 0xDF00, .expWr 0xFC00 0, .expRd 0xFC00, .unknownWr 0xF800 0,
     .unknownRd 0xF800].all (fun i => !i.wellFormed Params.reference) = true := by decide
theorem test_wf_refuses_wrong_palette_function :
    [Instr.palPen 0x7F00 0x40, .palColour 0x7F00 0x00, .palModeRom 0x7F00 0xC0, .palBank 0x7F00 0x80,
     .palPen 0xBF00 0x00].all (fun i => !i.wellFormed Params.reference) = true := by decide
theorem test_wf_refuses_wrong_crtc_function :
    [Instr.crtcSelect 0xBD00 0, .crtcWrite 0xBC00 0, .crtcWrFn2 0xBF00 0, .crtcWrFn3 0xBE00 0, .crtcRdFn0 0xBD00,
     .crtcRdFn1 0xBC00, .crtcStatusRd 0xBF00, .crtcRead 0xBE00,
     .crtcSelect 0x7C00 0].all (fun i => !i.wellFormed Params.reference) = true := by decide
theorem test_wf_refuses_wrong_ppi_function :
    [Instr.ppiAWr 0xF500 0, .ppiBWr 0xF400 0, .ppiCWr 0xF700 0, .ppiARd 0xF500, .ppiBRd 0xF400, .ppiCRd 0xF700,
     .ppiCtrlRd 0xF600, .ppiAWr 0xFC00 0].all (fun i => !i.wellFormed Params.reference) = true := by decide
theorem test_wf_refuses_wrong_control_kind :
    [Instr.ppiCtrlMode 0xF700 0x02, .ppiCtrlBsr 0xF700 0x82,
     .ppiCtrlMode 0xF600 0x82].all (fun i => !i.wellFormed Params.reference) = true := by decide

/-! Decoding: words of 95_test_vectors.md 2.1, one for every constructor, written out from the encoding. -/

theorem test_decode_palette :
    read 0x17F0003 = .ok (.palPen 0x7F00 0x03) ∧ read 0x17F1054 = .ok (.palColour 0x7F10 0x54) ∧
    read 0x17F008D = .ok (.palModeRom 0x7F00 0x8D) ∧ read 0x17F00C4 = .ok (.palBank 0x7F00 0xC4) ∧
    read 0x07F0000 = .ok (.palRd 0x7F00) := by decide
theorem test_decode_memory_ports :
    read 0x13F00C2 = .ok (.ramcfgWr 0x3F00 0xC2) ∧ read 0x1DF0007 = .ok (.romselWr 0xDF00 0x07) ∧
    read 0x03F0000 = .ok (.ramcfgRd 0x3F00) ∧ read 0x0DF0000 = .ok (.romselRd 0xDF00) := by decide
theorem test_decode_crtc_writes :
    read 0x1BC0006 = .ok (.crtcSelect 0xBC00 0x06) ∧ read 0x1800020 = .ok (.crtcSelect 0x8000 0x20) ∧
    read 0x1BD0012 = .ok (.crtcWrite 0xBD00 0x12) ∧ read 0x1BE0000 = .ok (.crtcWrFn2 0xBE00 0) ∧
    read 0x1BF0012 = .ok (.crtcWrFn3 0xBF00 0x12) := by decide
theorem test_decode_crtc_reads :
    read 0x0BC0000 = .ok (.crtcRdFn0 0xBC00) ∧ read 0x0BD0000 = .ok (.crtcRdFn1 0xBD00) ∧
    read 0x0BE0000 = .ok (.crtcStatusRd 0xBE00) ∧ read 0x0BF0000 = .ok (.crtcRead 0xBF00) := by decide
theorem test_decode_unhandled :
    read 0x1EF0041 = .ok (.printerWr 0xEF00 0x41) ∧ read 0x1FB0000 = .ok (.expWr 0xFB00 0) ∧
    read 0x1FC0012 = .ok (.unknownWr 0xFC00 0x12) ∧ read 0x0EF0000 = .ok (.printerRd 0xEF00) ∧
    read 0x0F80000 = .ok (.expRd 0xF800) ∧ read 0x0FF0000 = .ok (.unknownRd 0xFF00) := by decide
theorem test_decode_ppi_writes :
    read 0x1F4FF07 = .ok (.ppiAWr 0xF4FF 0x07) ∧ read 0x1F500AA = .ok (.ppiBWr 0xF500 0xAA) ∧
    read 0x1F600C5 = .ok (.ppiCWr 0xF600 0xC5) ∧ read 0x1F70082 = .ok (.ppiCtrlMode 0xF700 0x82) ∧
    read 0x1F7000F = .ok (.ppiCtrlBsr 0xF700 0x0F) := by decide
theorem test_decode_ppi_reads :
    read 0x0F40000 = .ok (.ppiARd 0xF400) ∧ read 0x0F50000 = .ok (.ppiBRd 0xF500) ∧
    read 0x0F60000 = .ok (.ppiCRd 0xF600) ∧ read 0x0F30000 = .ok (.ppiCtrlRd 0xF300) := by decide
theorem test_decode_memory :
    read 0x2C01000 = .ok (.memRead 0xC010) ∧ read 0x3000577 = .ok (.memWrite 0x0005 0x77) := by decide
theorem test_decode_clock_and_acknowledge :
    read 0x4000000 = .ok .clock ∧ read 0x4000100 = .ok .intack ∧ read 0x4000200 = .ok .reset := by decide
theorem test_decode_host :
    read 0x400050F = .ok (.psgHostSelect 15) ∧ read 0x40006FF = .ok (.psgHostWrite 0xFF) ∧
    read 0x4000701 = .ok (.setIrqLine true) ∧ read 0x4000700 = .ok (.setIrqLine false) ∧
    read 0x4000800 = .ok .queryVsync ∧ read 0x4000900 = .ok .audioFlush := by decide
theorem test_decode_records :
    decode Params.reference
      { word := 0x4000300, timing := ⟨1, 7, 5, 0, 0, false, false⟩, irqCounters := .zero } =
      .ok (.setTiming ⟨1, 7, 5, 0, 0, false, false⟩) ∧
    decode Params.reference { word := 0x4000400, timing := .zero, irqCounters := ⟨40, 1⟩ } =
      .ok (.restoreIrqCounters ⟨40, 1⟩) := by decide
theorem test_decode_refuses_illegal :
    read 0x4000702 = .error .argumentByte ∧ read 0x4000A00 = .error .reservedKind ∧
    read 0x4001000 = .error .reservedBits ∧ read 0x4000001 = .error .argumentByte ∧
    read 0x5000000 = .error .reservedBits ∧ read 0x6000000 = .error .reservedClass ∧
    read 0x7FFFFFF = .error .reservedClass ∧ read 0x0BF0001 = .error .readData := by decide
/-- 95_test_vectors.md 2.2. -/
theorem test_device_by_port :
    [(0x0000 : Addr), 0x3FFF, 0x4000, 0x7FFF, 0x8000, 0xBFFF, 0xC000, 0xDFFF, 0xE000, 0xEFFF, 0xF000, 0xF7FF,
     0xF800, 0xFBFF, 0xFC00, 0xFFFF].map device =
    [.ramcfg, .ramcfg, .pal, .pal, .crtc, .crtc, .romsel, .romsel, .printer, .printer, .ppi, .ppi,
     .expansion, .expansion, .unknown, .unknown] := by decide
theorem test_table_has_44_rows : opcodeTable.length = 44 := by decide

/-! Palette chip: vectors V-PAL-1 to V-PAL-8. -/

theorem test_palPen_ink : (after (exec (.palPen 0x7F00 0x23) start)).pal.selPen = 3 := by decide
theorem test_palPen_border : (after (exec (.palPen 0x7F00 0x1F) start)).pal.selPen = 16 := by decide
theorem test_palColour_border :
    (after (exec (.palColour 0x7F00 0x54) { start with pal := { start.pal with selPen := 16 } })).pal.pens[16] =
      0x14 := by decide
theorem test_palModeRom_plain :
    (after (exec (.palModeRom 0x7F00 0x8D) start)).pal =
      { start.pal with mode := 1, upperRomEn := true, lowerRomEn := false } := by decide
/-- R268, last row: the delay bit clears `icount`, keeps `vdelay`, cancels the request. -/
theorem test_palModeRom_delay :
    let s := after (exec (.palModeRom 0x7F00 0x9C)
      { start with irq := true, pal := { start.pal with icount := 17, vdelay := 1 } })
    s.pal.icount = 0 ∧ s.pal.vdelay = 1 ∧ s.irq = false ∧ s.trace = [.irqCancel] := by decide
theorem test_palBank : (after (exec (.palBank 0x7F00 0xFC) start)).mem.bankCfg = 4 := by decide
theorem test_palRd_keeps_block :
    after (exec (.palRd 0x7F00) start) = { start with returned := .byte (Config.drawByte 1), draws := 2 } := rfl

/-! Ports and memory: V-MEM-1, V-MEM-9, V-MEM-11, V-MEM-13, 40_io_dispatch.md R174 to R185. -/

theorem test_ramcfgWr : (after (exec (.ramcfgWr 0x0000 0x0A) start)).mem.bankCfg = 2 := by decide
theorem test_romselWr : (after (exec (.romselWr 0xDF00 0x07) start)).mem.upperRomSel = 7 := by decide
theorem test_unhandled_writes_change_nothing :
    exec (.printerWr 0xEF00 0x41) start = .next start ∧ exec (.expWr 0xF8FF 0) start = .next start ∧
    exec (.unknownWr 0xFC00 0x12) start = .next start := ⟨rfl, rfl, rfl⟩
theorem test_unknownRd : (after (exec (.unknownRd 0xFF00) start)).returned = .byte 0xFF := by decide
theorem test_memWrite_bank4 :
    (after (exec (.memWrite 0x4001 0x66) { start with mem := { start.mem with bankCfg := 4 } })).mem.ram =
      [(0x10001, 0x66)] := by decide
theorem test_memRead_ram_under_disabled_overlay :
    (after (exec (.memRead 0xC010) { start with
      pal := { start.pal with upperRomEn := false }
      mem := { start.mem with ram := [(0xC010, 0x5A)] } })).returned = .byte 0x5A := by decide
theorem test_memRead_absent_rom :
    (after (exec (.memRead 0x0000) start)).faultMark = some (.romAbsent 255) := by decide

/-! SyncTimer registers: V-REG-1, V-REG-5, V-REG-9, V-REG-12 to V-REG-17. -/

theorem test_crtcSelect_17 : (after (exec (.crtcSelect 0xBC00 0x11) start)).sync.crtcSel = 17 := by decide
theorem test_crtcSelect_not_masked :
    (after (exec (.crtcSelect 0xBC00 0x20) start)).faultMark = some (.contract .crtcRegisterIndex) := by decide
theorem test_crtcWrite_masked :
    (after (exec (.crtcWrite 0xBD00 0xFF) { start with sync := { start.sync with crtcSel := 4 } })).sync.regs[4] =
      0x7F := by decide
theorem test_crtcWrite_widths :
    let s := after (exec (.crtcWrite 0xBD00 0x8E) { start with sync := { start.sync with crtcSel := 3 } })
    s.sync.hw = 14 ∧ s.sync.vw = 8 := by decide
theorem test_crtcWrFn_refused :
    exec (.crtcWrFn2 0xBE00 0) start = .next { start with refusalMark := some .undefinedFunction } ∧
    exec (.crtcWrFn3 0xBF00 0x12) start = .next { start with refusalMark := some .undefinedFunction } := ⟨rfl, rfl⟩
/-- V-EXC-2: the first reason is kept. -/
theorem test_refusal_keeps_first :
    (after (exec (.ppiCtrlMode 0xF700 0xA0) (after (exec (.crtcWrFn2 0xBE00 0) start)))).refusalMark =
      some .undefinedFunction := by decide
theorem test_crtcRead_readable :
    (after (exec (.crtcRead 0xBF00) { start with
      sync := { start.sync with crtcSel := 14, regs := start.sync.regs.set 14 0x3F } })).returned = .byte 0x3F := by
  decide
theorem test_crtcRead_write_only :
    (after (exec (.crtcRead 0xBF00) { start with
      sync := { start.sync with crtcSel := 12, regs := start.sync.regs.set 12 0x3F } })).returned = .byte 0 := by
  decide
theorem test_undefined_reads_drawn :
    exec (.crtcRdFn0 0xBC00) start = .next { start with returned := .byte (Config.drawByte 1), draws := 2 } ∧
    exec (.crtcStatusRd 0xBE00) start = .next { start with returned := .byte (Config.drawByte 1), draws := 2 } :=
  ⟨rfl, rfl⟩
/-- V-REG-17: RESET_UNKNOWN = fault. -/
theorem test_unwritten_crtcSel :
    (after (exec (.crtcWrite 0xBD00 0x05) { start with
      params := { testParams with resetUnknown := .fault }, unwritten := [.crtcSel] })).faultMark =
      some (.unwritten .crtcSel) := by decide

/-! The clock: ticks 2, 8 and 16 of the trace of 41_synctimer.md R226, V-CLK-9, V-CLK-12, 70 R494. -/

theorem test_clock_hsync :
    let s := after (exec .clock { t1 with sync := { t1.sync with col := 1 } })
    (s.sync.col, s.sync.inH, s.sync.hcount, s.pal.icount, s.trace, s.psg.stick) =
      (2, true, 1, 1, [.hsync], 1) := by decide
theorem test_clock_vsync :
    let s := after (exec .clock { t1 with sync := { t1.sync with col := 3, line := 1 } })
    (s.sync.col, s.sync.line, s.sync.row, s.sync.inV, s.sync.vcount) = (0, 0, 1, true, 2) ∧
    s.pal.vdelay = 2 ∧ s.trace = [.vsync] := by decide
theorem test_clock_vsync_ends :
    let s := after (exec .clock { t1 with sync := { t1.sync with
      col := 3, line := 1, row := 1, vcount := 1, inV := true } })
    (s.sync.col, s.sync.line, s.sync.row, s.sync.inV, s.sync.vcount) = (0, 0, 2, false, 0) := by decide
theorem test_clock_vsync_reenters :
    let s := after (exec .clock { t1 with sync := { t1.sync with
      vw := 1, col := 3, line := 0, row := 1, vcount := 1, inV := true } })
    (s.sync.line, s.sync.inV, s.sync.vcount, s.trace) = (1, true, 1, [.vsync]) := by decide
theorem test_clock_column_overrun :
    let s := after (exec .clock { t1 with sync := { t1.sync with regs := t1.sync.regs.set 0 2, col := 3 } })
    s.faultMark = some (.overrun .col) ∧ s.psg.stick = 0 := by decide
theorem test_clock_equal_limit_is_safe :
    let s := after (exec .clock { t1 with sync := { t1.sync with regs := t1.sync.regs.set 0 2, col := 2 } })
    (s.faultMark, s.sync.col, s.sync.line) = (none, 0, 1) := by decide

/-! Interrupt counter: 42_palette_interrupt.md R268. -/

/-- One hsync from the given counters. -/
def hsyncFrom (icount vdelay : Nat) : State :=
  (palOnHsync { start with pal := { start.pal with icount := icount, vdelay := vdelay } }).state

theorem test_icount_52 : (hsyncFrom 51 0).pal.icount = 0 ∧ (hsyncFrom 51 0).trace = [.irqSet] := by decide
theorem test_icount_50 : (hsyncFrom 50 0).pal.icount = 51 ∧ (hsyncFrom 50 0).trace = [] := by decide
theorem test_delay_threshold :
    (hsyncFrom 31 1).trace = [.irqSet] ∧ (hsyncFrom 11 1).trace = [] ∧ (hsyncFrom 31 1).pal.icount = 0 := by decide
theorem test_delay_skips_52 : (hsyncFrom 51 2).pal.icount = 52 ∧ (hsyncFrom 51 2).trace = [] := by decide
theorem test_intack :
    let s := after (exec .intack { start with irq := true, pal := { start.pal with icount := 45 } })
    s.pal.icount = 13 ∧ s.irq = false := by decide
theorem test_clearBit5 : [20, 31, 32, 40, 52, 60, 64, 96].map clearBit5 = [20, 31, 0, 8, 20, 28, 64, 64] := by decide

/-! PPI: V-PPI-1, V-PPI-6, V-PPI-8, V-PPI-12, V-PPI-14, V-PPI-16, V-PPI-18, V-PPI-20. -/

/-- Port A and port C OUT, port B IN (control word 0x82). -/
def ppiOut : State := after (exec (.ppiCtrlMode 0xF700 0x82) start)

theorem test_ppiCtrlMode_82 :
    (ppiOut.ppi.dirA, ppiOut.ppi.dirB, ppiOut.ppi.dirCu, ppiOut.ppi.dirCl) = (.OUT, .IN, .OUT, .OUT) := by decide
theorem test_ppiCtrlMode_keeps_row_and_function :
    let s := after (exec (.ppiCtrlMode 0xF700 0x82) (after (exec (.ppiCWr 0xF600 0x45) ppiOut)))
    (s.ppi.latchC, s.ppi.kbdRow, s.psg.psgFn) = (0, 5, .read) := by decide
theorem test_ppiCtrlBsr_writes_sound :
    let s := after (exec (.ppiCtrlBsr 0xF700 0x0F) (after (exec (.ppiAWr 0xF400 0x0E) ppiOut)))
    (s.ppi.latchC, s.trace, s.psg.psgFn, s.psg.regs[0]) = (0x80, [.kbdRow 0], .write, 14) := by decide
theorem test_ppiCtrlBsr_clears_in_input :
    let s := after (exec (.ppiCtrlBsr 0xF700 0x0E) { start with ppi := { start.ppi with latchC := 0xFF } })
    (s.ppi.latchC, s.trace) = (0x7F, []) := by decide
theorem test_ppiCWr_select :
    let s := after (exec (.ppiCWr 0xF600 0xC5) { ppiOut with ppi := { ppiOut.ppi with latchA := 7 } })
    (s.ppi.latchC, s.ppi.kbdRow, s.psg.psgFn, s.psg.psgSel) = (0xC5, 5, .select, 7) := by decide
theorem test_ppiCWr_select_out_of_range :
    let s := after (exec (.ppiCWr 0xF600 0xC0) { ppiOut with ppi := { ppiOut.ppi with latchA := 0x20 } })
    (s.faultMark, s.trace) = (some (.contract .psgRegisterIndex), [.kbdRow 0]) := by decide
theorem test_ppiAWr_under_select :
    (after (exec (.ppiAWr 0xF400 0x10) { ppiOut with psg := { ppiOut.psg with psgFn := .select } })).faultMark =
      some (.contract .psgRegisterIndex) := by decide
theorem test_ppiAWr_input_draws :
    after (exec (.ppiAWr 0xF400 0x07) start) =
      { start with draws := 2, ppi := { start.ppi with latchA := drawLatch 1 0 7 } } := rfl
theorem test_ppiARd_psg :
    (after (exec (.ppiARd 0xF400) { start with
      psg := { start.psg with psgFn := .read, psgSel := 7, regs := start.psg.regs.set 7 0x38 } })).returned =
      .byte 0x38 := by decide
theorem test_ppiARd_keyboard :
    (after (exec (.ppiARd 0xF400) { start with psg := { start.psg with psgFn := .read, psgSel := 14 } })).returned =
      .byte (Config.keyboardInput 0 1) := rfl
theorem test_ppiBRd_status :
    (after (exec (.ppiBRd 0xF500) start)).returned = .byte 0x7E ∧
    (after (exec (.ppiBRd 0xF500) { start with sync := { start.sync with inV := true } })).returned =
      .byte 0x7F := by decide
theorem test_ppiBWr : (after (exec (.ppiBWr 0xF500 0xAA) { start with
    ppi := { start.ppi with dirB := .OUT } })).ppi.latchB = 0xAA := by decide
theorem test_ppiCRd_output :
    (after (exec (.ppiCRd 0xF600) { ppiOut with ppi := { ppiOut.ppi with latchC := 0x46 } })).returned =
      .byte 0x46 := by decide
theorem test_ppiCRd_input_draws_twice : (after (exec (.ppiCRd 0xF600) start)).draws = 3 := by decide

/-! SoundChip registers: 44_soundchip_registers.md R348. -/

theorem test_psg_period :
    (after (exec (.psgHostWrite 0xFF) { start with psg := { start.psg with
      psgSel := 1, regs := start.psg.regs.set 0 0xFF } })).psg.chA.period = 4095 := by decide
theorem test_psg_mixer :
    let c := (after (exec (.psgHostWrite 0x3E) { start with psg := { start.psg with psgSel := 7 } })).psg
    (c.chA.toneEn, c.chB.toneEn, c.chC.toneEn, c.chA.noiseEn, c.chB.noiseEn, c.chC.noiseEn) =
      (true, false, false, false, false, false) := by decide
theorem test_psg_noise_period :
    ((start.psg.writeReg testParams 6 0xE0).nperiod, (start.psg.writeReg testParams 6 0x3F).nperiod) = (1, 31) := by
  decide
theorem test_psg_volume :
    let c := start.psg.writeReg testParams 8 0xFF
    (c.regs[8], c.chA.vol, c.chA.envF) = (0x1F, 15, true) := by decide
theorem test_psg_shape :
    let c := start.psg.writeReg testParams 13 0xFC
    (c.regs[13], c.shape, c.hold, c.elevel) = (0x0C, 12, false, 0) := by decide
theorem test_psgHostSelect :
    (after (exec (.psgHostSelect 13) start)).psg.psgSel = 13 ∧
    (after (exec (.psgHostSelect 16) start)).faultMark = some (.contract .psgRegisterIndex) := by decide

/-! Generators: 45_soundchip_generators.md R382, R386, R395. -/

/-- One LFSR step of the reference form: the new register and output. -/
def lfsrFrom (rng : BitVec 17) (nout : Bool) : BitVec 17 × Bool :=
  let c := { start.psg with rng := rng, nout := nout }.lfsrStep testParams
  (c.rng, c.nout)

theorem test_lfsr :
    lfsrFrom 0x00001 false = (0x12000, true) ∧ lfsrFrom 0x00012 true = (0x00009, false) ∧
    lfsrFrom 0x00009 false = (0x12004, true) ∧ lfsrFrom 0x04801 false = (0x10400, true) := by decide
/-- The end of shape 0 holds at 0, the end of shape 14 wraps to 0. -/
theorem test_envelope_ends :
    (nextPos testParams 0 true 15, nextPos testParams 14 false 31, nextPos testParams 11 true 15) = (15, 0, 16) := by
  decide
/-- R395, first set-up: the tone update at tick 8. -/
theorem test_tone_update :
    let c := ((start.psg.writeReg testParams 7 0x3E).writeReg testParams 8 15).writeReg testParams 0 2
    let s := after (exec .clock { t1 with psg := { c with stick := 7 } })
    (s.psg.chA.tcount, s.psg.chA.pol, s.psg.chA.acc, s.psg.scount) = (1, false, -15, 1) := by decide
/-- The third tone update produces a sample and clears the accumulators (R390); a full buffer overruns (R393). -/
theorem test_sample :
    let c := { start.psg with
      regs := start.psg.regs.set 7 0x3F, stick := 7, scount := 2, ncount := 0
      chA := { start.psg.chA with toneEn := false, noiseEn := false, vol := 5, acc := 10 } }
    let s := after (exec .clock { t1 with psg := c })
    s.psg.obuf = [⟨Config.sampleConvert 0, Config.sampleConvert 15⟩] ∧ s.psg.chA.acc = 0 ∧ s.psg.scount = 0 :=
  ⟨rfl, rfl, rfl⟩
theorem test_sample_overrun :
    (after (exec .clock { t1 with params := { testParams with bufferCapacity := 0 }
                                  psg := { start.psg with stick := 7, scount := 2 } })).faultMark =
      some (.overrun .sampleBuffer) := by decide

/-! Host operations: V-HOST-1 to V-HOST-13, V-RST-1. -/

theorem test_setTiming_accepts :
    (after (exec (.setTiming ⟨3, 0, 0, 1, 0, true, false⟩) t1)).sync =
      { t1.sync with col := 3, hcount := 1, inH := true } := by decide
theorem test_setTiming_bounds :
    [(⟨4, 0, 0, 0, 0, false, false⟩ : TimingRecord), ⟨0, 0, 0, 2, 0, true, false⟩, ⟨0, 0, 0, 1, 0, false, false⟩].all
      (fun t => decide ((after (exec (.setTiming t) t1)).faultMark = some (.contract .setTimingBounds))) = true := by
  decide
theorem test_restoreIrq :
    [(⟨40, 1⟩ : IrqRecord), ⟨51, 0⟩, ⟨100, 2⟩, ⟨52, 0⟩, ⟨0, 3⟩, ⟨256, 1⟩].map irqCountersOk =
      [true, true, true, false, false, false] := by decide
theorem test_restoreIrq_writes :
    let s := after (exec (.restoreIrqCounters ⟨40, 1⟩) start)
    (s.pal.icount, s.pal.vdelay, s.faultMark) = (40, 1, none) := by decide
theorem test_setIrqLine :
    let s := after (exec (.setIrqLine true) start)
    (s.irq, s.trace, (after (exec (.setIrqLine false) s)).irq) = (true, [.irqSet], false) := by decide
theorem test_queryVsync : (after (exec .queryVsync start)).returned = .flag false := by decide
theorem test_audioFlush_asks_sink :
    let s := { start with psg := { start.psg with obuf := [⟨1, 2⟩, ⟨3, 4⟩] } }
    (after (exec .audioFlush s)).psg.obuf = if Config.sinkAccept 1 then [] else s.psg.obuf := by
  intro s
  show (Flow.state (if Config.sinkAccept 1 then _ else _)).psg.obuf = _
  split <;> rfl
theorem test_reset :
    let s := after (exec .reset { start with irq := true, ppi := ppiOut.ppi, trace := [.hsync] })
    s.irq = false ∧ s.ppi = Ppi.reset ∧ s.psg = SoundChip.reset 15 ∧ s.sync.col = 0 ∧ s.pal.lowerRomEn = true ∧
    s.trace = [.hsync] := ⟨rfl, rfl, by decide, rfl, rfl, rfl⟩

/-! The step: P4, 60_exceptions.md R441, R443, R461. -/

theorem test_step_runs_word :
    (after (step (State.reset.withFetchWord 32 0x17F0003))).pal.selPen = 3 := by decide
theorem test_step_illegal :
    (after (step (State.reset.withFetchWord 32 0x6000000))).refusalMark = some .illegalStimulus := by decide
theorem test_step_idle : step State.reset = .next State.reset := rfl
theorem test_step_host_call :
    (after (step { start with pending := [.hostCall (.selectBank 8)] })).faultMark = some (.contract .bankIndex) := by
  decide
theorem test_stuck :
    let s := { start with faultMark := some (.overrun .col) }
    exec .reset s = .next s ∧ exec (.crtcSelect 0xBC00 5) s = .next s := ⟨rfl, rfl⟩
theorem test_decodeTableWord :
    decodeTableWord 32 0x17F0003 = some (.palPen 0x7F00 3) ∧ decodeTableWord 32 0x6000000 = none := by decide

/-! Witnesses: for each statement of Certificates/Slice0/Obligations.lean with hypotheses, concrete states and operands
that meet them, each clause at a boundary of its range. -/

/-- `start` under RESET_UNKNOWN = fault, right after RESET: every unknown component is unwritten. -/
def drawnState : State :=
  { start with params := { testParams with resetUnknown := .fault }, unwritten := unknownAtReset }

/-- `drawnState` with `crtcSel` selected as `i`. -/
def selected (i : Fin 18) : State :=
  { drawnState with
    sync := { start.sync with crtcSel := i }, unwritten := unknownAtReset.filter (fun c => c != .crtcSel) }

/-- An image of zeros. -/
def zeroImage : RomImage := Vector.replicate 0x4000 0

/-- `start` with a ROM image in slot `i` and the upper slot selected as `j`. -/
def withRom (i : Fin 256) (j : Byte) : State :=
  { start with mem := { start.mem with
      romImage := start.mem.romImage.set i (some zeroImage), upperRomSel := j } }

/-- `start` with both ROM overlays off. -/
def noRom : State := { start with pal := { start.pal with lowerRomEn := false, upperRomEn := false } }

/-- `start` with port A's direction, the SoundChip's function and its selected register. -/
def bus (d : Dir) (f : PsgFn) (i : Fin 16) : State :=
  { start with ppi := { start.ppi with dirA := d }, psg := { start.psg with psgFn := f, psgSel := i } }

/-- `start` with the directions of port B and of the halves of port C. -/
def dirs (b cu cl : Dir) : State := { start with ppi := { start.ppi with dirB := b, dirCu := cu, dirCl := cl } }

/-- `t1` at a beam position. -/
def beam (col line row : Nat) : State := { t1 with sync := { t1.sync with col := col, line := line, row := row } }

/-- `t1` one tick before a tone update (`stick` 7 or 15), at an update count. -/
def beforeTone (stick scount : Nat) : State := { t1 with psg := { start.psg with stick := stick, scount := scount } }

/-- `drawnState` with the timing registers of `t1`, at a beam position: of the registers CLOCK reads those of `missing`
are unwritten; the pens, the mode, the selections and the other registers are unwritten too. -/
def unwrittenBeam (missing : List (Fin 18)) (col line row : Nat) : State :=
  { beam col line row with
    params := drawnState.params
    unwritten := unknownAtReset.filter fun c => match c with
      | .crtcReg i => missing.contains i || !([0, 2, 3, 4, 7, 9] : List (Fin 18)).contains i
      | _ => true }

/-- R14, R215, R441: the sync flag is written before an unwritten width is read, and keeps its value; nothing after the
raise happens. -/
theorem test_clock_unwritten_width :
    (let s := after (exec .clock (unwrittenBeam [3] 1 0 0))
     (s.faultMark, s.sync.inH, s.sync.hcount, s.trace) = (some (.unwritten .hw), true, 0, [])) ∧
    (let s := after (exec .clock (unwrittenBeam [3] 3 1 0))
     (s.faultMark, s.sync.inV, s.sync.vcount, s.pal.vdelay, s.trace) = (some (.unwritten .vw), true, 0, 0, [])) := by
  decide

/-- `beam` with a full buffer. -/
def fullBeam (col line row : Nat) : State :=
  { beam col line row with psg := { start.psg with obuf := List.replicate 4 ⟨0, 0⟩ } }

theorem witness_faultFree : start.faultMark = none ∧ State.reset.faultMark = none := ⟨rfl, rfl⟩
theorem witness_PalColour :
    isUnwritten start .selPen = false ∧ isUnwritten drawnState .selPen = true ∧ drawnState.faultMark = none := by decide
theorem witness_PalModeRom :
    (0x00 : Byte).getLsbD start.params.intDelayBit = false ∧ (0x10 : Byte).getLsbD start.params.intDelayBit = true := by
  decide
theorem witness_UnknownWrites :
    (0xFC00 : Addr).toNat / 2 ^ 10 = 63 ∧ (0xFFFF : Addr).toNat / 2 ^ 10 = 63 ∧ (0xFBFF : Addr).toNat / 2 ^ 10 ≠ 63 := by
  decide
theorem witness_UndefinedReads : Instr.palRd 0x7F00 ∈ [Instr.palRd 0x7F00, .ppiCtrlRd 0xF700] := by decide
theorem witness_CrtcSelect : (17 : Byte).toNat < 18 ∧ 18 ≤ (18 : Byte).toNat := by decide
theorem witness_CrtcWrite :
    isUnwritten start .crtcSel = false ∧ isUnwritten drawnState .crtcSel = true ∧
    (selected 3).sync.crtcSel = (selected 3).params.crtcIndex.sw ∧ isUnwritten (selected 3) .crtcSel = false := by decide
theorem witness_CrtcRead :
    (selected 13).sync.crtcSel.val < (selected 13).params.firstRwReg ∧
    (selected 14).params.firstRwReg ≤ (selected 14).sync.crtcSel.val ∧
    isUnwritten (selected 13) .crtcSel = false ∧ isUnwritten (selected 14) .crtcSel = false ∧
    isUnwritten (selected 14) (.crtcReg 14) = true ∧ isUnwritten start (.crtcReg 14) = false ∧
    isUnwritten drawnState .crtcSel = true := by decide
theorem witness_MemRead_overlaid :
    (0x3FFF : Addr).toNat < 0x4000 ∧ 0xC000 ≤ (0xC000 : Addr).toNat ∧
    (withRom 0 7).pal.lowerRomEn = true ∧ (withRom 0 7).pal.upperRomEn = true ∧
    (withRom 255 7).mem.romImage[255] = some zeroImage ∧ (withRom 0 7).mem.romImage[255] = none ∧
    (withRom 7 7).mem.romImage[(7 : Byte).toNat] = some zeroImage ∧
    (withRom 0 7).mem.romImage[(7 : Byte).toNat] = none ∧ (withRom 0 7).mem.romImage[0] = some zeroImage ∧
    (withRom 7 8).mem.romImage[0] = none ∧ (withRom 7 8).mem.romImage[(8 : Byte).toNat] = none := by
  refine ⟨by decide, by decide, rfl, rfl, ?_, ?_, ?_, ?_, ?_, ?_, ?_⟩ <;> simp [withRom, start, State.reset]
theorem witness_MemRead_ram :
    ¬ noRom.overlaid 0xFFFF ∧ ¬ noRom.overlaid 0x0000 ∧ ¬ start.overlaid 0x4000 ∧ ¬ start.overlaid 0xBFFF ∧
    noRom.params.resetUnknown = .draw ∧ drawnState.params.resetUnknown = .fault ∧ drawnState.mem.ram.read 0x4000 = none ∧
    ¬ drawnState.overlaid 0x4000 := by
  unfold State.overlaid; decide
theorem witness_ReadAfterWrite :
    ramAddress { noRom with mem := { noRom.mem with bankCfg := 3 } } 0x4000 = ramAddress noRom 0xC000 ∧
    ramAddress noRom 0xFFFF ≠ ramAddress noRom 0x0000 ∧ start.overlaid 0x3FFF := by
  unfold State.overlaid; decide
theorem witness_HostMemoryCalls :
    (List.replicate 0x4000 (0 : Byte)).length = 0x4000 ∧ ¬ (256 < 256 ∧ ([] : List Byte).length = 0x4000) ∧
    (List.replicate (4 * 0x4000) (0 : Byte)).length = 4 * 0x4000 ∧
    ¬ ((5 = 4 ∨ 5 = 8) ∧ ([] : List Byte).length = 5 * 0x4000) :=
  ⟨List.length_replicate, by decide, List.length_replicate, by decide⟩
theorem witness_PpiPortA :
    (bus .OUT .inactive 0).ppi.dirA = .OUT ∧ (bus .OUT .read 0).psg.psgFn = .read ∧
    (bus .OUT .write 0).psg.psgFn = .write ∧ (bus .OUT .select 0).psg.psgFn = .select ∧
    (15 : Byte).toNat < 16 ∧ 16 ≤ (16 : Byte).toNat ∧ start.ppi.dirA = .IN ∧
    (bus .IN .read 13).psg.psgSel ≠ 14 ∧ (bus .IN .read 14).psg.psgSel = 14 ∧ (bus .IN .write 0).psg.psgFn ≠ .read ∧
    (bus .IN .read 14).faultMark = none := by decide
theorem witness_PpiPortBAndC :
    (dirs .IN .OUT .IN).ppi.dirB = .IN ∧ (dirs .OUT .IN .OUT).ppi.dirB = .OUT ∧
    (dirs .IN .OUT .IN).ppi.dirCu = .OUT ∧ (dirs .IN .OUT .IN).ppi.dirCl = .IN ∧
    (dirs .OUT .IN .OUT).ppi.dirCu = .IN ∧ (dirs .OUT .IN .OUT).ppi.dirCl = .OUT ∧
    (dirs .IN .IN .IN).ppi.dirCu = .IN ∧ (dirs .IN .IN .IN).ppi.dirCl = .IN ∧ (dirs .IN .IN .IN).faultMark = none := by
  decide
/-- The four bus functions of a pushed port C latch, and port A latches on both sides of the index bound. -/
theorem witness_portCPushed :
    ([0x00, 0x7F, 0x80, 0xFF].map fun c : Nat => testParams.psgFnOf[c / 64]?) =
      [some .inactive, some .read, some .write, some .select] ∧
    (15 : Byte).toNat < 16 ∧ 16 ≤ (16 : Byte).toNat := by decide
theorem witness_PpiModeSet :
    ((0x9B : Byte).toNat / 32 % 4 = 0 ∧ (0x9B : Byte).getLsbD 2 = false) ∧ (0xA0 : Byte).toNat / 32 % 4 ≠ 0 ∧
    (0x84 : Byte).getLsbD 2 = true := by decide
theorem witness_PsgHostSelect : (15 : Byte).toNat < 16 ∧ 16 ≤ (16 : Byte).toNat := by decide
theorem witness_PsgWrites (i : Fin 16) : (bus .IN .read i).psg.psgSel = i ∧ (bus .IN .read i).faultMark = none :=
  ⟨rfl, rfl⟩
theorem witness_PsgShape :
    (bus .IN .read 13).psg.psgSel = 13 ∧ ((0xFF : Byte) &&& testParams.psgMask[13]).toNat = (15 : Fin 16).val ∧
    (testParams.envTable[(15 : Fin 16)]).head? = some 0 ∧ (testParams.envTable[(0 : Fin 16)]).head? = some 15 := by decide
theorem witness_PsgWriteReadsBack :
    (15 : Fin 16) ≠ 14 ∧ (bus .IN .read 0).ppi.dirA = .IN ∧ (bus .IN .read 0).psg.psgFn = .read := by decide
/-- Column 0 and, past the hsync start, column 2: ticks inside the scanline; also with a full buffer and no sample due,
and with only the timing registers written. -/
theorem witness_ClockInsideScanline :
    ∀ s ∈ [beam 0 0 0, beam 2 0 0, fullBeam 0 0 0, unwrittenBeam [] 0 0 0],
      s.clockRuns ∧ s.sync.col < s.ht ∧ ¬ s.hsyncStarts := by
  intro s hs
  refine ⟨?_, ?_⟩
  · unfold State.clockRuns State.timingRuns State.sampleFits State.bufferHasRoom
    fin_cases hs <;> decide
  · fin_cases hs <;> decide
theorem witness_full_buffer : ¬ (fullBeam 0 0 0).bufferHasRoom ∧ ¬ (fullBeam 0 0 0).sampleDue := by
  unfold State.bufferHasRoom; decide
theorem witness_pens_unwritten :
    ¬ (unwrittenBeam [] 0 0 0).holds (.pen 0) ∧ ¬ (unwrittenBeam [] 0 0 0).holds .mode ∧
    ¬ (unwrittenBeam [] 0 0 0).holds .selPen := by decide
theorem witness_ClockStartsHsync :
    ∀ s ∈ [beam 1 0 0, fullBeam 1 0 0, unwrittenBeam [] 1 0 0], s.clockRuns ∧ s.sync.col < s.ht ∧ s.hsyncStarts := by
  intro s hs
  refine ⟨?_, ?_⟩
  · unfold State.clockRuns State.timingRuns State.sampleFits State.bufferHasRoom
    fin_cases hs <;> decide
  · fin_cases hs <;> decide
/-- Scanline 0, the last scanline of row 0 (the next row is VSP) and the last one of the frame; VT is not read where the
line does not wrap. -/
theorem witness_ClockEndsScanline :
    (∀ s ∈ [beam 3 0 0, beam 3 1 0, beam 3 1 2, fullBeam 3 1 0, unwrittenBeam [] 3 1 0, unwrittenBeam [4] 3 0 0],
      s.clockRuns ∧ s.sync.col = s.ht) ∧
    (beam 3 1 0).sync.line = (beam 3 1 0).mra ∧ (beam 3 1 0).nextRow = (beam 3 1 0).vsp ∧
    (beam 3 1 2).sync.row = (beam 3 1 2).vt := by
  refine ⟨fun s hs => ⟨?_, ?_⟩, by decide⟩
  · unfold State.clockRuns State.timingRuns State.sampleFits State.bufferHasRoom
    fin_cases hs <;> decide
  · fin_cases hs <;> decide
theorem witness_ClockFaults_unwritten :
    ¬ (unwrittenBeam [0] 0 0 0).holds (.crtcReg 0) ∧
    ((unwrittenBeam [2] 0 0 0).holds (.crtcReg 0) ∧ (unwrittenBeam [2] 0 0 0).sync.col < (unwrittenBeam [2] 0 0 0).ht ∧
      ¬ (unwrittenBeam [2] 0 0 0).holds (.crtcReg 2)) ∧
    ((unwrittenBeam [3] 1 0 0).holds (.crtcReg 2) ∧ (unwrittenBeam [3] 1 0 0).hsyncStarts ∧
      ¬ (unwrittenBeam [3] 1 0 0).holds .hw) ∧
    ((unwrittenBeam [9] 3 0 0).sync.col = (unwrittenBeam [9] 3 0 0).ht ∧ ¬ (unwrittenBeam [9] 3 0 0).holds (.crtcReg 9)) ∧
    ((unwrittenBeam [4] 3 1 0).sync.line = (unwrittenBeam [4] 3 1 0).mra ∧
      ¬ (unwrittenBeam [4] 3 1 0).holds (.crtcReg 4)) ∧
    ((unwrittenBeam [7] 3 0 0).vsyncTested ∧ ¬ (unwrittenBeam [7] 3 0 0).holds (.crtcReg 7)) ∧
    ((unwrittenBeam [3] 3 1 0).nextRow = (unwrittenBeam [3] 3 1 0).vsp ∧ ¬ (unwrittenBeam [3] 3 1 0).holds .vw) := by
  decide
theorem witness_ClockFaults_overrun :
    ((beam 4 0 0).holds (.crtcReg 0) ∧ (beam 4 0 0).ht < (beam 4 0 0).sync.col ∧ ¬ (beam 4 0 0).timingRuns) ∧
    ((beam 3 2 0).sync.col = (beam 3 2 0).ht ∧ (beam 3 2 0).mra < (beam 3 2 0).sync.line) ∧
    ((beam 3 1 3).sync.line = (beam 3 1 3).mra ∧ (beam 3 1 3).vt < (beam 3 1 3).sync.row) := by
  refine ⟨⟨by decide, by decide, ?_⟩, by decide⟩
  unfold State.timingRuns; decide
theorem witness_ClockFaults_icount :
    let s := { beam 1 0 0 with pal := { start.pal with icount := 52 } }
    s.faultMark = none ∧ s.sync.col < s.ht ∧ s.holds (.crtcReg 2) ∧ s.hsyncStarts ∧ s.holds .hw ∧ s.pal.vdelay = 0 ∧
    52 ≤ s.pal.icount := by decide
theorem witness_ClockFaults_sampleBuffer :
    let s := { beforeTone 7 2 with params := { testParams with bufferCapacity := 0 } }
    s.faultMark = none ∧ s.timingRuns ∧ s.sampleDue ∧ ¬ s.bufferHasRoom := by
  unfold State.timingRuns State.bufferHasRoom; decide
theorem witness_ClockKeeps :
    ∀ s ∈ [beam 3 1 2, fullBeam 0 0 0, unwrittenBeam [] 1 0 0], s.timingReady ∧ s.sampleFits := by
  unfold State.timingReady State.timingWritten State.positionInRange State.irqCountersInRange State.sampleFits
    State.bufferHasRoom
  decide
/-- At a tone update with a sample due, at one that advances the envelope with none due, and between tone updates. -/
theorem witness_Tone :
    (∀ s ∈ [beforeTone 7 2, beforeTone 15 1, beforeTone 6 0, fullBeam 0 0 0], s.clockRuns) ∧
    (beforeTone 7 2).sampleDue ∧ ¬ (beforeTone 15 1).sampleDue ∧ ((beforeTone 15 1).psg.stick + 1) % 16 = 0 ∧
    ((beforeTone 6 0).psg.stick + 1) % 16 % 8 ≠ 0 := by
  refine ⟨fun s hs => ?_, by decide⟩
  unfold State.clockRuns State.timingRuns State.sampleFits State.bufferHasRoom
  fin_cases hs <;> decide
theorem witness_Noise :
    (beforeTone 7 0).params.lfsrForm = .galois 0x24000 ∧ (beforeTone 7 0).params.lfsrForm.keepsNonZero = true ∧
    LfsrForm.other.keepsNonZero = true ∧ (beforeTone 7 0).psg.rng ≠ 0 ∧
    (beforeTone 7 0).psg.nperiod ≤ (beforeTone 7 0).psg.ncount + 1 ∧
    (start.psg.writeReg testParams 6 2).ncount + 1 < (start.psg.writeReg testParams 6 2).nperiod := by decide
theorem witness_Envelope :
    (beforeTone 15 0).psg.eperiod ≤ (beforeTone 15 0).psg.ecount + 1 ∧
    (start.psg.writeReg testParams 11 2).ecount + 1 < (start.psg.writeReg testParams 11 2).eperiod ∧
    (testParams.envTable[(0 : Fin 16)])[1]? = some 14 := by decide
theorem witness_Restores :
    (∀ c ∈ [Component.crtcReg 0, .crtcReg 9, .crtcReg 4, .hw, .vw], (unwrittenBeam [] 0 0 0).holds c) ∧
    ¬ (unwrittenBeam [9] 0 0 0).holds (.crtcReg 9) ∧ t1.ht = 3 ∧ t1.mra = 1 ∧ t1.vt = 2 ∧
    irqCountersOk ⟨51, 0⟩ = true ∧ irqCountersOk ⟨52, 0⟩ = false ∧ irqCountersOk ⟨255, 1⟩ = true := by decide
theorem witness_StepRuns :
    let s := State.reset.withFetchWord 32 0x1BC0006
    s.pending = [.stimulus (Stimulus.ofWord 0x1BC0006)] ∧
    decode s.params (Stimulus.ofWord 0x1BC0006) = .ok (.crtcSelect 0xBC00 6) ∧
    (Instr.crtcSelect 0xBC00 6).wellFormed s.params = true := ⟨rfl, by decide, by decide⟩
theorem witness_faulted : ({ start with faultMark := some (.romAbsent 0) } : State).faultMark ≠ none := by decide
theorem witness_DecodeAndEncode :
    (Instr.crtcSelect 0xBC00 6).wellFormed testParams = true ∧
    (decode testParams (Stimulus.ofWord 0x4000700)).toOption = some (.setIrqLine false) := by decide
theorem witness_StepKeeps :
    step start = .next start ∧ start.faultMark = none ∧ testParams.wf = true ∧ start.widthsAgree ∧ start.pulsesAgree ∧
    start.irqCountersInRange ∧ start.ppiModesZero ∧ start.mem.ram.wf = true ∧ start.psg.agrees ∧
    start.psg.envelopeAgrees testParams ∧ start.psg.inRange testParams := by
  refine ⟨rfl, rfl, by decide, ?_, ?_, ?_, ?_, by decide, ?_, ?_, ?_⟩
  · unfold State.widthsAgree; decide
  · unfold State.pulsesAgree; decide
  · unfold State.irqCountersInRange; decide
  · unfold State.ppiModesZero; decide
  · unfold SoundChip.agrees Channel.agrees; decide
  · unfold SoundChip.envelopeAgrees; decide
  · unfold SoundChip.inRange; decide
/-- A step that is not idle keeps the premises' fault mark clear too: a CLOCK from `t1`. -/
theorem witness_StepKeeps_clock :
    (after (step { t1 with pending := [.stimulus (Stimulus.ofWord 0x4000000)] })).faultMark = none ∧
    (after (step { t1 with pending := [.stimulus (Stimulus.ofWord 0x4000000)] })).sync.col = 1 := by decide
theorem witness_Components : exec .queryVsync start = .next { start with returned := .flag false } := rfl
theorem witness_Reads : (Instr.memRead 0).mnemonic = "MEM_READ" ∧ (Instr.crtcRead 0xBF00).mnemonic = "CRTC_READ" := ⟨rfl, rfl⟩
/-- A frame of two columns, one scanline and two rows: its four CLOCKs raise nothing. -/
theorem witness_FramePeriod :
    let s := { t1 with sync := { t1.sync with regs := #v[1, 0, 1, 0x21, 1, 0, 0, 1, 0, 0, 0, 0, 0, 0, 0, 0, 0, 0] } }
    s.faultMark = none ∧ (s.sync.col = 0 ∧ s.sync.line = 0 ∧ s.sync.row = 0) ∧
    (s.ht + 1) * (s.mra + 1) * (s.vt + 1) = 4 ∧ (clocks 4 s).faultMark = none := by decide
theorem witness_Tone_period : 1 ≤ Channel.reset.period ∧ Channel.reset.tcount = 0 := by decide
theorem witness_EnvelopeShapes :
    testParams.wf = true ∧ ((3 : Byte) &&& testParams.psgMask[13]).toNat ≤ 3 ∧
    ((0xFE : Byte) &&& testParams.psgMask[13]).toNat = 14 ∧ testParams.envTable[14] = risingLevels ++ fallingLevels := by
  decide
theorem witness_IllegalWords :
    (0x6000000 : StimWord).toNat / 2 ^ 25 = 3 ∧ (0x4000A00 : StimWord).toNat / 2 ^ 8 % 16 = 10 ∧
    ((0x00000001 : StimWord).toNat / 2 ^ 25 ≤ 1 ∧ (0x00000001 : StimWord).toNat % 256 ≠ 0) ∧
    (read 0x4000900).toOption = some .audioFlush := by decide

end Sys2Proof.Tests
end

section
/-! Proofs of family 20_memory.md: a store into RAM (R95, R174). -/

namespace Sys2Proof.Machine

/-- Every read after a write, at the written address and elsewhere. -/
theorem Memory.read_write (m : Memory) (a b : Nat) (v : Byte) :
    (m.write a v).read b = if b = a then some v else m.read b := by
  split
  case isTrue h => rw [h, Memory.read_write_same]
  case isFalse h => exact Memory.read_write_other m a b v h

/-- MEM_WRITE runs to its end on every address: no overlay is consulted and nothing is raised. -/
theorem exec_memWrite {s : State} (hf : s.faultMark = none) (a : Addr) (v : Byte) :
    exec (.memWrite a v) s = .next (memWriteByte s a v) :=
  stimulus_running hf fun t => .running (memWriteByte t a v)

/-- Settles O13: the RAM after the store is the old one with one write at the bank-mapped address. -/
theorem memWriteChangesOneRamByte : Obligations.MemWriteChangesOneRamByte := by
  intro a v s hf
  refine ⟨s.mem.ram.write (ramAddress s a) v, ?frame, fun b => ?bytes⟩
  case frame => exact exec_memWrite hf a v
  case bytes => exact Memory.read_write s.mem.ram (ramAddress s a) b v

end Sys2Proof.Machine
end

section
/-! Proofs of family 40_io_dispatch.md: a write to an unknown port (R133, R179). -/

namespace Sys2Proof.Machine

/-! The fields of a bus word (R130). -/

@[simp] theorem wordClass_busWord (cls : BitVec 2) (wr : Bool) (a : Addr) (d : Byte) :
    wordClass (busWord cls wr a d) = cls := by
  refine BitVec.eq_of_getLsbD_eq fun i hi => ?_
  simp only [wordClass, busWord, BitVec.getLsbD_extractLsb', BitVec.getLsbD_append]
  interval_cases i <;> simp

@[simp] theorem wordDir_busWord (cls : BitVec 2) (wr : Bool) (a : Addr) (d : Byte) :
    wordDir (busWord cls wr a d) = wr := by
  simp only [wordDir, busWord, BitVec.getLsbD_append]
  simp

@[simp] theorem wordAddr_busWord (cls : BitVec 2) (wr : Bool) (a : Addr) (d : Byte) :
    wordAddr (busWord cls wr a d) = a := by
  unfold wordAddr busWord
  rw [BitVec.extractLsb'_append_eq_of_le (by omega), BitVec.extractLsb'_append_eq_right]

@[simp] theorem wordData_busWord (cls : BitVec 2) (wr : Bool) (a : Addr) (d : Byte) :
    wordData (busWord cls wr a d) = d :=
  BitVec.extractLsb'_append_eq_right

/-- Putting two bit strings side by side is arithmetic: the upper one counts in steps of the lower one's size. -/
theorem toNat_append_eq_add {m n : Nat} (x : BitVec m) (y : BitVec n) :
    (x ++ y).toNat = x.toNat * 2 ^ n + y.toNat := by
  rw [BitVec.toNat_append, ← Nat.shiftLeft_add_eq_or_of_lt y.isLt, Nat.shiftLeft_eq]

/-- The number of an IO write's word: the class is 0, the direction bit 24 set (R130). -/
theorem ioWriteWord_eq_ofNat (p : Addr) (d : Byte) :
    ioWriteWord p d = BitVec.ofNat 27 (2 ^ 24 + p.toNat * 256 + d.toNat) := by
  have word_value : (ioWriteWord p d).toNat = 2 ^ 24 + p.toNat * 256 + d.toNat := by
    simp only [ioWriteWord, busWord, toNat_append_eq_add, BitVec.toNat_ofBool, Bool.toNat_true,
      BitVec.ofNat_eq_ofNat, BitVec.toNat_ofNat]
    omega
  rw [← word_value, BitVec.ofNat_toNat, BitVec.setWidth_eq]

/-- The word of an IO write decodes to what its port and byte select (R170). -/
theorem decode_ioWriteWord (q : Params) (p : Addr) (d : Byte) :
    decode q (Stimulus.ofWord (ioWriteWord p d)) = .ok (decodeIoWrite q p d) := by
  simp [decode, Stimulus.ofWord, ioWriteWord]

/-- The last place of the priority chain of R133: no device claims a port with bits 15 to 10 all set. -/
theorem device_eq_unknown {p : Addr} (hp : p.toNat / 2 ^ 10 = 63) : device p = .unknown := by
  have set_bit : ∀ i, 10 ≤ i → i < 16 → p.getLsbD i = true := fun i hlo hhi => by
    have upper_bits : (p.toNat / 2 ^ 10).testBit (i - 10) = p.getLsbD i := by
      rw [Nat.testBit_div_two_pow, Nat.sub_add_cancel hlo, BitVec.getLsbD]
    rw [← upper_bits, hp]
    interval_cases i <;> rfl
  simp [device, set_bit, -BitVec.getLsbD_eq_getElem]

theorem decodeIoWrite_unknown {p : Addr} (hp : device p = .unknown) (q : Params) (d : Byte) :
    decodeIoWrite q p d = .unknownWr p d := by
  unfold decodeIoWrite
  rw [hp]

/-- UNKNOWN_WR answers the state it was given, whether that state is stuck or runs. -/
theorem exec_unknownWr (p : Addr) (d : Byte) (s : State) : exec (.unknownWr p d) s = .next s := by
  obtain ⟨f, -, hstuck⟩ | ⟨-, hrun⟩ := stimulus_cases s .running
  · exact hstuck
  · exact hrun

/-- Settles O5: the word's fields lead the decoder to the end of the priority chain, and the instruction there has no
effect. -/
theorem unknownWritesChangeNothing : Obligations.UnknownWritesChangeNothing := by
  intro p d hp
  refine ⟨fun q => ?decodes, exec_unknownWr p d⟩
  case decodes =>
    rw [← ioWriteWord_eq_ofNat, decode_ioWriteWord, decodeIoWrite_unknown (device_eq_unknown hp)]

end Sys2Proof.Machine
end

section
/-! Proofs of family other, the layer below the statements: what `exec` does with each instruction, said once, and the
one induction over what a step can be. -/

namespace Sys2Proof.Machine

/-! A faulted state is stuck (R441). -/

theorem exec_stuck {s : State} {f : Fault} (h : s.faultMark = some f) (i : Instr) : exec i s = .next s := by
  cases i <;> apply stimulus_stuck h

theorem runHostCall_stuck {s : State} {f : Fault} (h : s.faultMark = some f) (c : HostCall) :
    runHostCall c s = .next s :=
  stimulus_stuck h _

theorem execIllegal_stuck {s : State} {f : Fault} (h : s.faultMark = some f) : execIllegal s = .next s :=
  stimulus_stuck h _

theorem Flow.state_ite (c : Prop) [Decidable c] (s t : State) :
    (if c then Flow.running s else .running t).state = if c then s else t := by
  split <;> rfl

/-! What each instruction does where no fault is recorded. -/

section Running

variable {s : State} (hf : s.faultMark = none)
include hf

theorem exec_palPen (p : Addr) (d : Byte) :
    exec (.palPen p d) s = .next ((s.setPal { s.pal with selPen := penOf d }).markWritten .selPen) := by
  apply stimulus_running hf

theorem exec_palColour (p : Addr) (d : Byte) :
    exec (.palColour p d) s = .next (reading .selPen s fun s => .running
      ((s.setPal { s.pal with pens := s.pal.pens.set s.pal.selPen (colourOf d) }).markWritten
        (.pen s.pal.selPen))).state := by
  apply stimulus_running hf

/-- The delay bit chooses between the two effects of R254. -/
theorem exec_palModeRom (p : Addr) (d : Byte) :
    let t := (s.setPal { s.pal with
      mode := screenModeOf d, upperRomEn := upperRomEnOf s.params d, lowerRomEn := lowerRomEnOf s.params d }).markWritten
        .mode
    exec (.palModeRom p d) s =
      .next (if delaysInterrupts s.params d then cancelIrq (t.setPal { t.pal with icount := 0 }) else t) := by
  show execPalModeRom p d s = _
  rw [execPalModeRom, stimulus_running hf]
  exact congrArg Host.Outcome.next (Flow.state_ite _ _ _)

/-- Both ways to select a bank configuration (R175, R255). -/
theorem exec_bank (p : Addr) (d : Byte) : ∀ i ∈ [Instr.palBank p d, .ramcfgWr p d],
    exec i s = .next (s.setMem { s.mem with bankCfg := ⟨bankIndexOf d, bankIndexOf_lt d⟩ }) := by
  have h : stimulus s (fun s => selectBank s (bankIndexOf d)) = _ := stimulus_running hf _
  rw [selectBank_lt (bankIndexOf_lt d)] at h
  simpa using ⟨h, h⟩

theorem exec_romselWr (p : Addr) (d : Byte) :
    exec (.romselWr p d) s = .next (s.setMem { s.mem with upperRomSel := d }) := by
  apply stimulus_running hf

/-- The ports no chip listens to (R177, R178, R179). -/
theorem exec_unheardWrite (p : Addr) (d : Byte) : ∀ i ∈ [Instr.printerWr p d, .expWr p d, .unknownWr p d],
    exec i s = .next s := by
  have h : stimulus s .running = .next s := stimulus_running hf _
  simpa using ⟨h, h, h⟩

/-- The reads whose value no rule defines (R180 to R184, R209 to R211, R305). -/
theorem exec_undefinedRead (p : Addr) : ∀ i ∈ [Instr.palRd p, .ramcfgRd p, .romselRd p, .printerRd p, .expRd p,
      .crtcRdFn0 p, .crtcRdFn1 p, .crtcStatusRd p, .ppiCtrlRd p],
    exec i s = .next ((s.give (.byte (Config.drawByte s.draws))).drawn) := by
  have h : stimulus s giveDrawnByte = .next _ := stimulus_running hf _
  simpa using ⟨h, h, h, h, h, h, h, h, h⟩

theorem exec_unknownRd (p : Addr) : exec (.unknownRd p) s = .next (s.give (.byte 0xFF)) := by
  apply stimulus_running hf

theorem exec_memRead (a : Addr) : exec (.memRead a) s = .next (giveByte s (memReadByte s a)).state := by
  apply stimulus_running hf

/-- The whole byte is the index; 18 and above faults (R205). -/
theorem exec_crtcSelect (p : Addr) (d : Byte) :
    exec (.crtcSelect p d) s = .next (if h : d.toNat < 18 then
        (s.setSync { s.sync with crtcSel := ⟨d.toNat, h⟩ }).markWritten .crtcSel
      else s.raiseFault (.contract .crtcRegisterIndex)) := by
  show execCrtcSelect p d s = _
  rw [execCrtcSelect, stimulus_running hf]
  split <;> rfl

theorem exec_crtcWrite (p : Addr) (d : Byte) :
    exec (.crtcWrite p d) s =
      .next (reading .crtcSel s fun s => .running (writeCrtc s s.sync.crtcSel d)).state := by
  apply stimulus_running hf

/-- The two functions the SyncTimer does not define (R207, R208). -/
theorem exec_crtcUndefined (p : Addr) (d : Byte) : ∀ i ∈ [Instr.crtcWrFn2 p d, .crtcWrFn3 p d],
    exec i s = .next (s.refuse .undefinedFunction) := by
  have h : stimulus s (fun s => .running (s.refuse .undefinedFunction)) = .next _ := stimulus_running hf _
  simpa using ⟨h, h⟩

theorem exec_crtcRead (p : Addr) :
    exec (.crtcRead p) s = .next (reading .crtcSel s fun s =>
      if s.sync.crtcSel.val < s.params.firstRwReg then giveByte s (.ok 0)
      else reading (.crtcReg s.sync.crtcSel) s fun s => giveByte s (.ok (s.crtc s.sync.crtcSel))).state := by
  apply stimulus_running hf

theorem exec_ppiARd (p : Addr) :
    exec (.ppiARd p) s = .next (if s.ppi.dirA = .IN then (psgBusRead s).2.give (.byte (psgBusRead s).1)
      else s.give (.byte s.ppi.latchA)) := by
  show execPpiARd p s = _
  rw [execPpiARd, stimulus_running hf]
  split <;> rfl

theorem exec_ppiAWr (p : Addr) (d : Byte) :
    exec (.ppiAWr p d) s = .next (if s.ppi.dirA = .OUT then
        (psgDataBusWrite (s.setPpi { s.ppi with latchA := d }) d).state
      else (s.setPpi { s.ppi with latchA := drawLatch s.draws s.ppi.latchA d }).drawn) := by
  show execPpiAWr p d s = _
  rw [execPpiAWr, stimulus_running hf]
  split <;> rfl

theorem exec_ppiBRd (p : Addr) :
    exec (.ppiBRd p) s =
      .next (s.give (.byte (if s.ppi.dirB = .IN then portBStatus s.params s.sync.inV else s.ppi.latchB))) := by
  show execPpiBRd p s = _
  rw [execPpiBRd, stimulus_running hf]
  split <;> rfl

theorem exec_ppiBWr (p : Addr) (d : Byte) :
    exec (.ppiBWr p d) s = .next (if s.ppi.dirB = .OUT then s.setPpi { s.ppi with latchB := d }
      else (s.setPpi { s.ppi with latchB := drawLatch s.draws s.ppi.latchB d }).drawn) := by
  show execPpiBWr p d s = _
  rw [execPpiBWr, stimulus_running hf]
  split <;> rfl

theorem exec_ppiCRd (p : Addr) :
    let hi := readHalf s.ppi.dirCu (highNibble s.ppi.latchC) s
    let lo := readHalf s.ppi.dirCl (lowNibble s.ppi.latchC) hi.2
    exec (.ppiCRd p) s = .next (lo.2.give (.byte (fromNibbles hi.1 lo.1))) := by
  apply stimulus_running hf

theorem exec_ppiCWr (p : Addr) (d : Byte) :
    let hi := writeHalf s.ppi.dirCu (highNibble s.ppi.latchC) (highNibble d) s
    let lo := writeHalf s.ppi.dirCl (lowNibble s.ppi.latchC) (lowNibble d) hi.2
    exec (.ppiCWr p d) s =
      .next (portCSideEffectsIfOut (lo.2.setPpi { lo.2.ppi with latchC := fromNibbles hi.1 lo.1 })).state := by
  apply stimulus_running hf

/-- A non-zero mode field refuses before any state changes (R303, R444). -/
theorem exec_ppiCtrlMode (p : Addr) (d : Byte) :
    exec (.ppiCtrlMode p d) s = .next (if groupAMode d ≠ 0 ∨ groupBMode d ≠ 0 then s.refuse .ppiMode
      else s.setPpi { s.ppi with
        modeA := groupAMode d, modeB := groupBMode d
        dirA := dirOfBit (d.getLsbD 4), dirCu := dirOfBit (d.getLsbD 3)
        dirB := dirOfBit (d.getLsbD 1), dirCl := dirOfBit (d.getLsbD 0)
        latchA := 0, latchB := 0, latchC := 0 }) := by
  show execPpiCtrlMode p d s = _
  rw [execPpiCtrlMode, stimulus_running hf]
  split <;> rfl

theorem exec_ppiCtrlBsr (p : Addr) (d : Byte) :
    exec (.ppiCtrlBsr p d) s = .next (portCSideEffectsIfOut
      (s.setPpi { s.ppi with latchC := setBit s.ppi.latchC (bsrIndex d) (d.getLsbD 0) })).state := by
  apply stimulus_running hf

theorem exec_intack : exec .intack s = .next ((palOnAck s).setIrq false) := by
  apply stimulus_running hf

theorem exec_reset : exec .reset s = .next (resetAll s) := by
  apply stimulus_running hf

theorem exec_restoreIrqCounters (r : IrqRecord) :
    exec (.restoreIrqCounters r) s = .next (if irqCountersOk r then
        s.setPal { s.pal with icount := r.icount, vdelay := r.vdelay }
      else s.raiseFault (.contract .irqCounterBounds)) := by
  show execRestoreIrqCounters r s = _
  rw [execRestoreIrqCounters, stimulus_running hf]
  split <;> rfl

/-- The five bounds in the rule's order, then the record (R412). -/
theorem exec_setTiming (r : TimingRecord) :
    exec (.setTiming r) s = .next (
      within (.crtcReg s.params.crtcIndex.ht) (fun s => decide (r.col ≤ s.ht)) s fun s =>
      within (.crtcReg s.params.crtcIndex.mra) (fun s => decide (r.line ≤ s.mra)) s fun s =>
      within (.crtcReg s.params.crtcIndex.vt) (fun s => decide (r.row ≤ s.vt)) s fun s =>
      within .hw (fun s => decide (r.hcount ≤ s.sync.hw)) s fun s =>
      within .vw (fun s => decide (r.vcount ≤ s.sync.vw)) s fun s =>
        if r.inH = decide (0 < r.hcount) ∧ r.inV = decide (0 < r.vcount) then
          .running (s.setSync { s.sync with
            col := r.col, line := r.line, row := r.row
            hcount := r.hcount, vcount := r.vcount, inH := r.inH, inV := r.inV })
        else raiseAndEnd s (.contract .setTimingBounds)).state := by
  apply stimulus_running hf

theorem exec_psgHostSelect (r : Byte) : exec (.psgHostSelect r) s = .next (psgSelect s r).state := by
  apply stimulus_running hf

theorem exec_psgHostWrite (v : Byte) : exec (.psgHostWrite v) s = .next (psgWriteSelected s v) := by
  apply stimulus_running hf

theorem exec_setIrqLine (b : Bool) :
    exec (.setIrqLine b) s = .next (if b then requestIrq s else cancelIrq s) := by
  apply stimulus_running hf

theorem exec_queryVsync : exec .queryVsync s = .next (s.give (.flag s.sync.inV)) := by
  apply stimulus_running hf

theorem exec_audioFlush :
    exec .audioFlush s = .next (if Config.sinkAccept s.draws then
        ((s.emit (.handoff s.psg.obuf.length)).setPsg { s.psg with obuf := [] }).drawn
      else s.drawn) := by
  show execAudioFlush s = _
  rw [execAudioFlush, stimulus_running hf]
  split <;> rfl

theorem execIllegal_running : execIllegal s = .next (s.refuse .illegalStimulus) := by
  apply stimulus_running hf

end Running

/-- One bound of SET_TIMING: it reads UNWRITTEN, goes on, or faults CONTRACT (R412, R490). -/
theorem within_cases (c : Component) (ok : State → Bool) (s : State) (k : State → Flow) :
    (isUnwritten s c = true ∧ within c ok s k = .ended (s.raiseFault (.unwritten c))) ∨
    (isUnwritten s c = false ∧ ok s = true ∧ within c ok s k = k s) ∨
    (isUnwritten s c = false ∧ ok s = false ∧
      within c ok s k = .ended (s.raiseFault (.contract .setTimingBounds))) := by
  obtain ⟨h, e⟩ | ⟨h, e⟩ := reading_cases c s fun s => if ok s then k s else raiseAndEnd s (.contract .setTimingBounds)
  · exact .inl ⟨h, e⟩
  · cases hok : ok s with
    | true => exact .inr (.inl ⟨h, rfl, e.trans (if_pos hok)⟩)
    | false => exact .inr (.inr ⟨h, rfl, e.trans (if_neg (by simp [hok]))⟩)

/-! Steps. -/

/-- A relation that holds of every stimulus, illegal word and host call, that standing still meets and that does not
look at the inputs its first state has pending, holds of every step. -/
theorem step_relates {R : State → State → Prop} (idle : ∀ s, R s s)
    (take : ∀ s rest t, R (s.setPending rest) t → R s t)
    (instr : ∀ i s t, exec i s = .next t → R s t)
    (illegal : ∀ s t, execIllegal s = .next t → R s t)
    (call : ∀ c s t, runHostCall c s = .next t → R s t) {s t : State} (h : step s = .next t) : R s t := by
  obtain ⟨-, e⟩ | ⟨st, rest, i, -, -, e⟩ | ⟨st, rest, x, -, -, e⟩ | ⟨c, rest, -, e⟩ := step_cases s <;> rw [e] at h
  · cases h; exact idle s
  · exact take s rest t (instr i _ t h)
  · exact take s rest t (illegal _ t h)
  · exact take s rest t (call c _ t h)

end Sys2Proof.Machine
end

section
/-! Proofs of family other: what a CLOCK adds to the trace (R452). -/

namespace Sys2Proof.Machine

/-! The events of the SyncTimer's half: none but at the two sync starts. -/

theorem clockColumn_trace (s : State) : (clockColumn s).state.trace = s.trace := by
  unfold clockColumn reading
  dsimp only
  split
  · rfl
  · split <;> rfl

theorem clockRow_trace (s : State) : (clockRow s).state.trace = s.trace := by
  unfold clockRow reading
  dsimp only
  repeat' split
  all_goals rfl

theorem clockLine_trace (s : State) : (clockLine s).state.trace = s.trace := by
  unfold clockLine reading
  dsimp only
  split
  · rfl
  · split
    · rfl
    · split
      · exact clockRow_trace _
      · rfl

/-- The hsync listener emits IRQ_SET or nothing (R260). -/
theorem palOnHsync_trace (s : State) : ∃ e ∈ [[], [Event.irqSet]], (palOnHsync s).state.trace = s.trace ++ e := by
  obtain ⟨-, -, h⟩ | ⟨-, -, h⟩ | ⟨-, -, h⟩ | ⟨-, -, h⟩ | ⟨-, -, h⟩ | ⟨-, h⟩ := palOnHsync_cases s <;> rw [h] <;>
    simp

/-- Starting hsync emits HSYNC before the listener runs, unless the width is unwritten (R42, R188). -/
theorem enterHsync_trace (s : State) :
    ∃ e ∈ [[], [Event.hsync], [.hsync, .irqSet]], (enterHsync s).state.trace = s.trace ++ e := by
  cases hw : isUnwritten s .hw with
  | true => rw [enterHsync_unwritten hw]; simp
  | false =>
    rw [enterHsync_written hw]
    obtain ⟨e, he, ht⟩ := palOnHsync_trace
      ((s.setSync { s.sync with inH := true, hcount := s.sync.hw }).emit .hsync)
    refine ⟨.hsync :: e, ?_, by simpa using ht⟩
    simpa using he

theorem hsyncTest_trace (s : State) :
    ∃ e ∈ [[], [Event.hsync], [.hsync, .irqSet]], (hsyncTest s).state.trace = s.trace ++ e := by
  unfold hsyncTest reading
  dsimp only
  split
  · simp
  · split
    · exact enterHsync_trace s
    · simp

theorem enterVsync_trace (s : State) : ∃ e ∈ [[], [Event.vsync]], (enterVsync s).state.trace = s.trace ++ e := by
  cases hw : isUnwritten s .vw with
  | true => rw [enterVsync_unwritten hw]; simp
  | false => rw [enterVsync_written hw]; simp [palOnVsync]

theorem vsyncTest_trace (s : State) : ∃ e ∈ [[], [Event.vsync]], (vsyncTest s).state.trace = s.trace ++ e := by
  have quiet : ∃ e ∈ [[], [Event.vsync]], s.trace = s.trace ++ e := ⟨[], by simp, by simp⟩
  unfold vsyncTest reading
  dsimp only
  split
  · split
    · exact quiet
    · split
      · exact quiet
      · split
        · exact enterVsync_trace s
        · exact quiet
  · exact quiet

theorem endOfScanline_trace (s : State) :
    ∃ e ∈ [[], [Event.vsync]], (endOfScanline s).state.trace = s.trace ++ e := by
  unfold endOfScanline
  dsimp only
  obtain ⟨u, hu⟩ : ∃ u, u = (s.setSync { s.sync with col := 0 }).setSync (s.setSync { s.sync with col := 0 }).sync.countV :=
    ⟨_, rfl⟩
  have hs : u.trace = s.trace := by rw [hu]; rfl
  have hl := clockLine_trace u
  rw [← hu]
  obtain ⟨t, ht, h⟩ | ⟨t, ht, h⟩ := Flow.andThen_cases (clockLine u) vsyncTest <;> rw [h] <;> rw [ht] at hl
  · exact ⟨[], by simp, by simpa [hs] using hl⟩
  · obtain ⟨e, he, hv⟩ := vsyncTest_trace t
    exact ⟨e, he, by rw [hv, ← hs, ← hl]; rfl⟩

/-- The events of the SyncTimer's half, faulting or not: HSYNC with or without IRQ_SET, or VSYNC, or none (R215). -/
theorem syncOnClock_trace (s : State) : ∃ e ∈ [[], [Event.hsync], [.hsync, .irqSet], [.vsync]],
    (syncOnClock s).state.trace = s.trace ++ e := by
  unfold syncOnClock
  have hc := clockColumn_trace s
  obtain ⟨t, ht, h⟩ | ⟨t, ht, h⟩ := Flow.andThen_cases (clockColumn s)
    (fun s => if (s.setSync s.sync.countH).sync.col = (s.setSync s.sync.countH).ht + 1 then
      endOfScanline (s.setSync s.sync.countH) else hsyncTest (s.setSync s.sync.countH)) <;>
    rw [ht] at hc <;> erw [h]
  · exact ⟨[], by simp, by simpa using hc⟩
  · have hc' : (t.setSync t.sync.countH).trace = s.trace := hc
    split
    · obtain ⟨e, he, hv⟩ := endOfScanline_trace (t.setSync t.sync.countH)
      refine ⟨e, ?_, by rw [hv, hc']⟩
      simp at he ⊢; tauto
    · obtain ⟨e, he, hv⟩ := hsyncTest_trace (t.setSync t.sync.countH)
      refine ⟨e, ?_, by rw [hv, hc']⟩
      simp at he ⊢; tauto

/-- A CLOCK's trace: the SyncTimer's events, then the samples (R186). -/
theorem execClock_trace {s t : State} (h : exec .clock s = .next t) :
    ∃ e ∈ [[], [Event.hsync], [.hsync, .irqSet], [.vsync]], ∃ l, t.trace = s.trace ++ e ++ sampleEvents l := by
  cases hf : s.faultMark with
  | some f => rw [exec_stuck hf] at h; cases h; exact ⟨[], by simp, [], by simp [sampleEvents]⟩
  | none =>
    rw [execClock_eq hf] at h
    cases h
    obtain ⟨e, he, hs⟩ := syncOnClock_trace s
    obtain ⟨u, hu, h⟩ | ⟨u, hu, h⟩ := Flow.andThen_cases (syncOnClock s) soundOnClock <;> rw [h] <;> rw [hu] at hs
    · exact ⟨e, he, [], by simpa [sampleEvents] using hs⟩
    · obtain ⟨l, hl, -⟩ := (Flow.obeys_state (soundOnClock_obeys u)).trace
      exact ⟨e, he, l, by rw [hl, ← hs]; rfl⟩

/-- Settles O57: the events of the SyncTimer's half, then the samples, in each of its four forms. -/
theorem clockEmitsAtMostOneSyncEvent : Obligations.ClockEmitsAtMostOneSyncEvent := by
  intro s t h
  obtain ⟨e, he, l, ht⟩ := execClock_trace h
  refine ⟨l, ?_⟩
  simp only [List.mem_cons, List.not_mem_nil, or_false] at he
  obtain rfl | rfl | rfl | rfl := he
  · exact .inl (by simpa using ht)
  · exact .inr (.inl ht)
  · exact .inr (.inr (.inl ht))
  · exact .inr (.inr (.inr ht))

end Sys2Proof.Machine
end

section
/-! Proofs of family other: which instruction writes which component (R72), by one frame per instruction. -/

namespace Sys2Proof.Machine

/-! The parts of the state that R72 gives writers, and what it is to keep one. -/

/-- A part of the state in the sense of R72's table. -/
inductive Part where
  | crtcRegs | crtcSel | beam | pens | mode | irqCounters | irq | bankCfg | upperRomSel | ram | ports | kbdRow | sound
  | buffer

/-- The part is in `t` as it was in `s`. -/
def Part.kept (s t : State) : Part → Prop
  | .crtcRegs => t.sync.regs = s.sync.regs ∧ t.sync.hw = s.sync.hw ∧ t.sync.vw = s.sync.vw
  | .crtcSel => t.sync.crtcSel = s.sync.crtcSel
  | .beam => t.sync.col = s.sync.col ∧ t.sync.line = s.sync.line ∧ t.sync.row = s.sync.row ∧
      t.sync.hcount = s.sync.hcount ∧ t.sync.vcount = s.sync.vcount ∧ t.sync.inH = s.sync.inH ∧ t.sync.inV = s.sync.inV
  | .pens => t.pal.pens = s.pal.pens ∧ t.pal.selPen = s.pal.selPen
  | .mode => t.pal.mode = s.pal.mode ∧ t.pal.lowerRomEn = s.pal.lowerRomEn ∧ t.pal.upperRomEn = s.pal.upperRomEn
  | .irqCounters => t.pal.icount = s.pal.icount ∧ t.pal.vdelay = s.pal.vdelay
  | .irq => t.irq = s.irq
  | .bankCfg => t.mem.bankCfg = s.mem.bankCfg
  | .upperRomSel => t.mem.upperRomSel = s.mem.upperRomSel
  | .ram => t.mem.ram = s.mem.ram ∧ t.mem.ramEpoch = s.mem.ramEpoch
  | .ports => { t.ppi with kbdRow := 0 } = { s.ppi with kbdRow := 0 }
  | .kbdRow => t.ppi.kbdRow = s.ppi.kbdRow
  | .sound => { t.psg with obuf := [] } = { s.psg with obuf := [] }
  | .buffer => t.psg.obuf = s.psg.obuf

/-- `t` differs from `s` at most in the parts `w`, in a longer trace, in the fault mark and in what has no part: the
draws, the value returned and the unwritten components. -/
structure Frame (w : List Part) (s t : State) : Prop where
  kept : ∀ p, p ∉ w → p.kept s t
  params : t.params = s.params
  romImage : t.mem.romImage = s.mem.romImage
  pending : t.pending = s.pending
  refusalMark : t.refusalMark = s.refusalMark
  trace : s.trace <+: t.trace

theorem Part.kept_trans {p : Part} {a b c : State} (h : p.kept a b) (k : p.kept b c) : p.kept a c := by
  cases p <;> simp_all [Part.kept]

theorem Part.kept_of_chips {s t : State} (sync : t.sync = s.sync) (pal : t.pal = s.pal) (irq : t.irq = s.irq)
    (mem : t.mem = s.mem) (ppi : t.ppi = s.ppi) (psg : t.psg = s.psg) (p : Part) : p.kept s t := by
  cases p <;> simp_all [Part.kept]

namespace Frame

variable {w : List Part}

theorem trans {a b c : State} (h : Frame w a b) (k : Frame w b c) : Frame w a c :=
  ⟨fun p hp => Part.kept_trans (h.kept p hp) (k.kept p hp), k.params.trans h.params, k.romImage.trans h.romImage,
    k.pending.trans h.pending, k.refusalMark.trans h.refusalMark, h.trace.trans k.trace⟩

/-- Every chip stays as it is. -/
theorem of_chips {s t : State} (sync : t.sync = s.sync) (pal : t.pal = s.pal) (irq : t.irq = s.irq)
    (mem : t.mem = s.mem) (ppi : t.ppi = s.ppi) (psg : t.psg = s.psg) (params : t.params = s.params)
    (pending : t.pending = s.pending) (refusalMark : t.refusalMark = s.refusalMark) (trace : s.trace <+: t.trace) :
    Frame w s t :=
  ⟨fun p _ => Part.kept_of_chips sync pal irq mem ppi psg p, params, by rw [mem], pending, refusalMark, trace⟩

/-! One rule per named update of the state. -/

theorem refl (s : State) : Frame w s s := of_chips rfl rfl rfl rfl rfl rfl rfl rfl rfl ⟨[], by simp⟩

theorem raise (s : State) (f : Fault) : Frame w s (s.raiseFault f) :=
  of_chips rfl rfl rfl rfl rfl rfl rfl rfl rfl ⟨[], by simp⟩

theorem give (s : State) (v : Returned) : Frame w s (s.give v) :=
  of_chips rfl rfl rfl rfl rfl rfl rfl rfl rfl ⟨[], by simp⟩

theorem drawn (s : State) : Frame w s s.drawn := of_chips rfl rfl rfl rfl rfl rfl rfl rfl rfl ⟨[], by simp⟩

theorem markWritten (s : State) (c : Component) : Frame w s (s.markWritten c) :=
  of_chips rfl rfl rfl rfl rfl rfl rfl rfl rfl ⟨[], by simp⟩

theorem emit (s : State) (e : Event) : Frame w s (s.emit e) :=
  of_chips rfl rfl rfl rfl rfl rfl rfl rfl rfl ⟨[e], rfl⟩

theorem setIrq (s : State) (b : Bool) (h : .irq ∈ w) : Frame w s (s.setIrq b) :=
  ⟨fun p hp => by
    cases p
    case irq => exact absurd h hp
    all_goals simp [Part.kept], rfl, rfl, rfl, rfl, ⟨[], by simp⟩⟩

theorem setSync (s : State) (x : SyncTimer)
    (regs : .crtcRegs ∈ w ∨ x.regs = s.sync.regs ∧ x.hw = s.sync.hw ∧ x.vw = s.sync.vw)
    (sel : .crtcSel ∈ w ∨ x.crtcSel = s.sync.crtcSel)
    (beam : .beam ∈ w ∨ x.col = s.sync.col ∧ x.line = s.sync.line ∧ x.row = s.sync.row ∧ x.hcount = s.sync.hcount ∧
      x.vcount = s.sync.vcount ∧ x.inH = s.sync.inH ∧ x.inV = s.sync.inV) : Frame w s (s.setSync x) :=
  ⟨fun p hp => by
    cases p
    case crtcRegs => exact regs.resolve_left hp
    case crtcSel => exact sel.resolve_left hp
    case beam => exact beam.resolve_left hp
    all_goals simp [Part.kept], rfl, rfl, rfl, rfl, ⟨[], by simp⟩⟩

theorem setPal (s : State) (x : Palette)
    (pens : .pens ∈ w ∨ x.pens = s.pal.pens ∧ x.selPen = s.pal.selPen)
    (mode : .mode ∈ w ∨ x.mode = s.pal.mode ∧ x.lowerRomEn = s.pal.lowerRomEn ∧ x.upperRomEn = s.pal.upperRomEn)
    (counters : .irqCounters ∈ w ∨ x.icount = s.pal.icount ∧ x.vdelay = s.pal.vdelay) : Frame w s (s.setPal x) :=
  ⟨fun p hp => by
    cases p
    case pens => exact pens.resolve_left hp
    case mode => exact mode.resolve_left hp
    case irqCounters => exact counters.resolve_left hp
    all_goals simp [Part.kept], rfl, rfl, rfl, rfl, ⟨[], by simp⟩⟩

theorem setMem (s : State) (x : MemoryUnit) (rom : x.romImage = s.mem.romImage)
    (bank : .bankCfg ∈ w ∨ x.bankCfg = s.mem.bankCfg) (slot : .upperRomSel ∈ w ∨ x.upperRomSel = s.mem.upperRomSel)
    (ram : .ram ∈ w ∨ x.ram = s.mem.ram ∧ x.ramEpoch = s.mem.ramEpoch) : Frame w s (s.setMem x) :=
  ⟨fun p hp => by
    cases p
    case bankCfg => exact bank.resolve_left hp
    case upperRomSel => exact slot.resolve_left hp
    case ram => exact ram.resolve_left hp
    all_goals simp [Part.kept], rfl, rom, rfl, rfl, ⟨[], by simp⟩⟩

theorem setPpi (s : State) (x : Ppi) (ports : .ports ∈ w ∨ { x with kbdRow := 0 } = { s.ppi with kbdRow := 0 })
    (row : .kbdRow ∈ w ∨ x.kbdRow = s.ppi.kbdRow) : Frame w s (s.setPpi x) :=
  ⟨fun p hp => by
    cases p
    case ports => exact ports.resolve_left hp
    case kbdRow => exact row.resolve_left hp
    all_goals simp [Part.kept], rfl, rfl, rfl, rfl, ⟨[], by simp⟩⟩

theorem setPsg (s : State) (x : SoundChip) (sound : .sound ∈ w ∨ { x with obuf := [] } = { s.psg with obuf := [] })
    (buffer : .buffer ∈ w ∨ x.obuf = s.psg.obuf) : Frame w s (s.setPsg x) :=
  ⟨fun p hp => by
    cases p
    case sound => exact sound.resolve_left hp
    case buffer => exact buffer.resolve_left hp
    all_goals simp [Part.kept], rfl, rfl, rfl, rfl, ⟨[], by simp⟩⟩

/-! The shared operations. -/

theorem of_reading {c : Component} {s : State} {k : State → Flow} (h : Frame w s (k s).state) :
    Frame w s (reading c s k).state := by
  obtain ⟨-, e⟩ | ⟨-, e⟩ := reading_cases c s k <;> rw [e]
  · exact raise s _
  · exact h

theorem of_giveByte (s : State) (r : Except Fault Byte) : Frame w s (giveByte s r).state := by
  cases r with
  | ok v => exact give s _
  | error f => exact raise s f

/-- A SoundChip register write leaves the buffer (R336). -/
theorem of_psgWriteSelected (s : State) (d : Byte) (h : .sound ∈ w) : Frame w s (psgWriteSelected s d) := by
  obtain ⟨-, -, -, hobuf, -⟩ := s.psg.writeReg_regs s.params s.psg.psgSel d
  exact setPsg s _ (.inl h) (.inr hobuf)

theorem of_psgApply (s : State) (f : PsgFn) (d : Byte) (h : .sound ∈ w) : Frame w s (psgApply s f d).state := by
  obtain e | ⟨-, e⟩ | ⟨hd, -, e⟩ | ⟨-, -, e⟩ := psgApply_cases s f d <;> rw [e]
  · exact refl s
  · exact of_psgWriteSelected s d h
  · exact setPsg s _ (.inl h) (.inr rfl)
  · exact raise s _

theorem of_portCSideEffectsIfOut (s : State) (hr : .kbdRow ∈ w) (hs : .sound ∈ w) :
    Frame w s (portCSideEffectsIfOut s).state := by
  unfold portCSideEffectsIfOut
  split
  · have row := setPpi (w := w) s { s.ppi with kbdRow := kbdRowOfLatch s.ppi.latchC } (.inr rfl) (.inl hr)
    have pushed := (row.trans (emit _ (.kbdRow (kbdRowOfLatch s.ppi.latchC)))).trans
      (setPsg _ { s.psg with psgFn := psgFnOfLatch s.params s.ppi.latchC } (.inl hs) (.inr rfl))
    exact pushed.trans (of_psgApply _ (psgFnOfLatch s.params s.ppi.latchC) s.ppi.latchA hs)
  · exact refl s

theorem of_psgBusRead (s : State) : Frame w s (psgBusRead s).2 := by
  unfold psgBusRead
  split
  · split
    · exact drawn s
    · exact refl s
  · exact drawn s

theorem of_readHalf (dir : Dir) (n : BitVec 4) (s : State) : Frame w s (readHalf dir n s).2 := by
  unfold readHalf
  split
  · exact refl s
  · exact drawn s

theorem of_writeHalf (dir : Dir) (old new : BitVec 4) (s : State) : Frame w s (writeHalf dir old new s).2 := by
  unfold writeHalf
  split
  · exact refl s
  · exact drawn s

theorem of_within {c : Component} {ok : State → Bool} {s : State} {k : State → Flow} (h : Frame w s (k s).state) :
    Frame w s (within c ok s k).state := by
  obtain ⟨-, e⟩ | ⟨-, -, e⟩ | ⟨-, -, e⟩ := within_cases c ok s k <;> rw [e]
  · exact raise s _
  · exact h
  · exact raise s _

/-- The SyncTimer's half of a CLOCK (R215). -/
theorem of_syncOnClock (s : State) (hb : .beam ∈ w) (hc : .irqCounters ∈ w) (hi : .irq ∈ w) :
    Frame w s (syncOnClock s).state := by
  have o := Flow.obeys_state (syncOnClock_obeys s)
  obtain ⟨e, -, ht⟩ := syncOnClock_trace s
  refine ⟨fun p hp => ?_, o.params, by rw [o.mem], o.pending, o.refusalMark, ⟨e, ht.symm⟩⟩
  cases p
  case beam => exact absurd hb hp
  case irqCounters => exact absurd hc hp
  case irq => exact absurd hi hp
  all_goals simp [Part.kept, o.regs, o.hw, o.vw, o.crtcSel, o.pens, o.selPen, o.mode, o.lowerRomEn, o.upperRomEn, o.mem,
    o.ppi, o.psg]

/-- The SoundChip's half of a CLOCK (R371). -/
theorem of_soundOnClock (s : State) (hs : .sound ∈ w) (hb : .buffer ∈ w) : Frame w s (soundOnClock s).state := by
  have o := Flow.obeys_state (soundOnClock_obeys s)
  obtain ⟨l, ht, -⟩ := o.trace
  refine ⟨fun p hp => ?_, o.params, by rw [o.mem], o.pending, o.refusalMark, ⟨_, ht.symm⟩⟩
  cases p
  case sound => exact absurd hs hp
  case buffer => exact absurd hb hp
  all_goals simp [Part.kept, o.sync, o.pal, o.irq, o.mem, o.ppi]

end Frame

/-! The frame of every instruction. -/

/-- The parts an instruction may write (R72). -/
def writtenBy : Instr → List Part
  | .palPen _ _ => [.pens]
  | .palColour _ _ => [.pens]
  | .palModeRom _ _ => [.mode, .irqCounters, .irq]
  | .palBank _ _ => [.bankCfg]
  | .ramcfgWr _ _ => [.bankCfg]
  | .crtcSelect _ _ => [.crtcSel]
  | .crtcWrite _ _ => [.crtcRegs]
  | .romselWr _ _ => [.upperRomSel]
  | .ppiAWr _ _ => [.ports, .sound]
  | .ppiBWr _ _ => [.ports]
  | .ppiCWr _ _ => [.ports, .kbdRow, .sound]
  | .ppiCtrlMode _ _ => [.ports]
  | .ppiCtrlBsr _ _ => [.ports, .kbdRow, .sound]
  | .memWrite _ _ => [.ram]
  | .clock => [.beam, .irqCounters, .irq, .sound, .buffer]
  | .intack => [.irqCounters, .irq]
  | .reset => [.crtcRegs, .crtcSel, .beam, .pens, .mode, .irqCounters, .irq, .bankCfg, .upperRomSel, .ram, .ports,
      .kbdRow, .sound, .buffer]
  | .setTiming _ => [.beam]
  | .restoreIrqCounters _ => [.irqCounters]
  | .psgHostSelect _ => [.sound]
  | .psgHostWrite _ => [.sound]
  | .setIrqLine _ => [.irq]
  | .audioFlush => [.buffer]
  | .crtcWrFn2 _ _ => []
  | .crtcWrFn3 _ _ => []
  | .printerWr _ _ => []
  | .expWr _ _ => []
  | .unknownWr _ _ => []
  | .palRd _ => []
  | .ramcfgRd _ => []
  | .crtcRdFn0 _ => []
  | .crtcRdFn1 _ => []
  | .crtcStatusRd _ => []
  | .crtcRead _ => []
  | .romselRd _ => []
  | .printerRd _ => []
  | .ppiARd _ => []
  | .ppiBRd _ => []
  | .ppiCRd _ => []
  | .ppiCtrlRd _ => []
  | .expRd _ => []
  | .unknownRd _ => []
  | .memRead _ => []
  | .queryVsync => []

/-- R72 and R443: every instruction answers a state that differs in its parts at most, or refuses and marks that
alone. -/
theorem exec_framed (i : Instr) (s : State) :
    ∃ t, exec i s = .next t ∧ (Frame (writtenBy i) s t ∨ ∃ r, t = s.refuse r) := by
  cases hf : s.faultMark with
  | some f => exact ⟨s, exec_stuck hf i, .inl (.refl s)⟩
  | none =>
  have runs (j : Instr) (t : State) (h : exec j s = .next t) (k : Frame (writtenBy j) s t) :
      ∃ t, exec j s = .next t ∧ (Frame (writtenBy j) s t ∨ ∃ r, t = s.refuse r) := ⟨t, h, .inl k⟩
  cases i
  case crtcWrFn2 p d | crtcWrFn3 p d => exact ⟨_, exec_crtcUndefined hf p d _ (by simp), .inr ⟨_, rfl⟩⟩
  case ppiCtrlMode p d =>
    refine ⟨_, exec_ppiCtrlMode hf p d, ?_⟩
    split
    · exact .inr ⟨_, rfl⟩
    · exact .inl (.setPpi s _ (.inl (by simp [writtenBy])) (.inr rfl))
  case reset =>
    refine runs _ _ (exec_reset hf) ⟨fun p hp => ?_, by simp, by simp, by simp, by simp, by simp⟩
    exact absurd (by cases p <;> simp [writtenBy]) hp
  case clock =>
    refine runs _ _ (execClock_eq hf) ?_
    have hs : Frame (writtenBy .clock) s (syncOnClock s).state :=
      .of_syncOnClock s (by simp [writtenBy]) (by simp [writtenBy]) (by simp [writtenBy])
    obtain ⟨u, hu, e⟩ | ⟨u, hu, e⟩ := Flow.andThen_cases (syncOnClock s) soundOnClock <;> rw [e] <;> rw [hu] at hs
    · exact hs
    · exact hs.trans (.of_soundOnClock u (by simp [writtenBy]) (by simp [writtenBy]))
  case palPen p d =>
    refine runs _ _ (exec_palPen hf p d) (.trans ?_ (.markWritten _ _))
    exact .setPal s _ (.inl (by simp [writtenBy])) (.inr ⟨rfl, rfl, rfl⟩) (.inr ⟨rfl, rfl⟩)
  case palColour p d =>
    refine runs _ _ (exec_palColour hf p d) (.of_reading (.trans ?_ (.markWritten _ _)))
    exact .setPal s _ (.inl (by simp [writtenBy])) (.inr ⟨rfl, rfl, rfl⟩) (.inr ⟨rfl, rfl⟩)
  case palModeRom p d =>
    refine runs _ _ (exec_palModeRom hf p d) ?_
    have hm : Frame (writtenBy (.palModeRom p d)) s ((s.setPal { s.pal with
        mode := screenModeOf d, upperRomEn := upperRomEnOf s.params d
        lowerRomEn := lowerRomEnOf s.params d }).markWritten .mode) := by
      refine .trans ?_ (.markWritten _ _)
      exact .setPal s _ (.inr ⟨rfl, rfl⟩) (.inl (by simp [writtenBy])) (.inr ⟨rfl, rfl⟩)
    split
    · refine hm.trans (.trans ?_ (.trans (.setIrq _ _ (by simp [writtenBy])) (.emit _ _)))
      exact .setPal _ _ (.inr ⟨rfl, rfl⟩) (.inr ⟨rfl, rfl, rfl⟩) (.inl (by simp [writtenBy]))
    · exact hm
  case palBank p d | ramcfgWr p d =>
    refine runs _ _ (exec_bank hf p d _ (by simp)) ?_
    exact .setMem s _ rfl (.inl (by simp [writtenBy])) (.inr rfl) (.inr ⟨rfl, rfl⟩)
  case romselWr p d =>
    refine runs _ _ (exec_romselWr hf p d) ?_
    exact .setMem s _ rfl (.inr rfl) (.inl (by simp [writtenBy])) (.inr ⟨rfl, rfl⟩)
  case memWrite a v =>
    refine runs _ _ (exec_memWrite hf a v) ?_
    exact .setMem s _ rfl (.inr rfl) (.inr rfl) (.inl (by simp [writtenBy]))
  case crtcSelect p d =>
    refine runs _ _ (exec_crtcSelect hf p d) ?_
    split
    · refine .trans ?_ (.markWritten _ _)
      exact .setSync s _ (.inr ⟨rfl, rfl, rfl⟩) (.inl (by simp [writtenBy])) (.inr ⟨rfl, rfl, rfl, rfl, rfl, rfl, rfl⟩)
    · exact .raise s _
  case crtcWrite p d =>
    refine runs _ _ (exec_crtcWrite hf p d) (.of_reading (.trans ?_ (.markWritten _ _)))
    refine .setSync s _ (.inl (by simp [writtenBy])) (.inr ?_) (.inr ?_) <;> split <;> simp
  case setTiming r =>
    refine runs _ _ (exec_setTiming hf r) ?_
    refine .of_within (.of_within (.of_within (.of_within (.of_within ?_))))
    split
    · exact .setSync s _ (.inr ⟨rfl, rfl, rfl⟩) (.inr rfl) (.inl (by simp [writtenBy]))
    · exact .raise s _
  case ppiAWr p d =>
    refine runs _ _ (exec_ppiAWr hf p d) ?_
    split
    · refine .trans ?_ (.of_psgApply _ _ _ (by simp [writtenBy]))
      exact .setPpi s _ (.inl (by simp [writtenBy])) (.inr rfl)
    · refine .trans ?_ (.drawn _)
      exact .setPpi s _ (.inl (by simp [writtenBy])) (.inr rfl)
  case ppiBWr p d =>
    refine runs _ _ (exec_ppiBWr hf p d) ?_
    split
    · exact .setPpi s _ (.inl (by simp [writtenBy])) (.inr rfl)
    · refine .trans ?_ (.drawn _)
      exact .setPpi s _ (.inl (by simp [writtenBy])) (.inr rfl)
  case ppiCWr p d =>
    refine runs _ _ (exec_ppiCWr hf p d) (.trans ?_ (.of_portCSideEffectsIfOut _ (by simp [writtenBy])
      (by simp [writtenBy])))
    have drawn : Frame (writtenBy (.ppiCWr p d)) s _ :=
      .trans (.of_writeHalf s.ppi.dirCu (highNibble s.ppi.latchC) (highNibble d) s)
        (.of_writeHalf s.ppi.dirCl (lowNibble s.ppi.latchC) (lowNibble d) _)
    exact drawn.trans (.setPpi _ _ (.inl (by simp [writtenBy])) (.inr rfl))
  case ppiCtrlBsr p d =>
    refine runs _ _ (exec_ppiCtrlBsr hf p d) (.trans ?_ (.of_portCSideEffectsIfOut _ (by simp [writtenBy])
      (by simp [writtenBy])))
    exact .setPpi s _ (.inl (by simp [writtenBy])) (.inr rfl)
  case intack =>
    refine runs _ _ (exec_intack hf) (.trans ?_ (.setIrq _ _ (by simp [writtenBy])))
    exact .setPal s _ (.inr ⟨rfl, rfl⟩) (.inr ⟨rfl, rfl, rfl⟩) (.inl (by simp [writtenBy]))
  case restoreIrqCounters r =>
    refine runs _ _ (exec_restoreIrqCounters hf r) ?_
    split
    · exact .setPal s _ (.inr ⟨rfl, rfl⟩) (.inr ⟨rfl, rfl, rfl⟩) (.inl (by simp [writtenBy]))
    · exact .raise s _
  case psgHostSelect r =>
    exact runs _ _ (exec_psgHostSelect hf r) (.of_psgApply s .select r (by simp [writtenBy]))
  case psgHostWrite v =>
    exact runs _ _ (exec_psgHostWrite hf v) (.of_psgWriteSelected s v (by simp [writtenBy]))
  case setIrqLine b =>
    refine runs _ _ (exec_setIrqLine hf b) ?_
    split <;> exact .trans (.setIrq s _ (by simp [writtenBy])) (.emit _ _)
  case audioFlush =>
    refine runs _ _ (exec_audioFlush hf) ?_
    split
    · refine .trans (.trans (.emit s (.handoff s.psg.obuf.length)) ?_) (.drawn _)
      exact .setPsg _ _ (.inr rfl) (.inl (by simp [writtenBy]))
    · exact .drawn s
  case queryVsync => exact runs _ _ (exec_queryVsync hf) (.give s _)
  case memRead a => exact runs _ _ (exec_memRead hf a) (.of_giveByte s _)
  case crtcRead p =>
    refine runs _ _ (exec_crtcRead hf p) (.of_reading ?_)
    split
    · exact .of_giveByte s _
    · exact .of_reading (.of_giveByte s _)
  case ppiARd p =>
    refine runs _ _ (exec_ppiARd hf p) ?_
    split
    · exact .trans (.of_psgBusRead s) (.give _ _)
    · exact .give s _
  case ppiBRd p => exact runs _ _ (exec_ppiBRd hf p) (.give s _)
  case ppiCRd p =>
    exact runs _ _ (exec_ppiCRd hf p) (.trans (.trans (.of_readHalf _ _ _) (.of_readHalf _ _ _)) (.give _ _))
  case unknownRd p => exact runs _ _ (exec_unknownRd hf p) (.give s _)
  case printerWr p d | expWr p d | unknownWr p d => exact runs _ _ (exec_unheardWrite hf p d _ (by simp)) (.refl s)
  case palRd p | ramcfgRd p | crtcRdFn0 p | crtcRdFn1 p | crtcStatusRd p | romselRd p | printerRd p | ppiCtrlRd p
      | expRd p =>
    exact runs _ _ (exec_undefinedRead hf p _ (by simp)) (.trans (.give s _) (.drawn _))

theorem exec_frame {i : Instr} {s t : State} (h : exec i s = .next t) :
    Frame (writtenBy i) s t ∨ ∃ r, t = s.refuse r := by
  obtain ⟨u, hu, k⟩ := exec_framed i s
  rw [h] at hu
  cases hu
  exact k

/-- A part that an instruction does not write is as before. -/
theorem exec_kept {i : Instr} {s t : State} (h : exec i s = .next t) {p : Part} (hp : p ∉ writtenBy i) :
    p.kept s t := by
  obtain k | ⟨r, rfl⟩ := exec_frame h
  · exact k.kept p hp
  · exact Part.kept_of_chips rfl rfl rfl rfl rfl rfl p

/-! The mnemonics of R72's table. -/

/-- The mnemonics of the instructions that R72 lets write a part. -/
def Part.writers : Part → List String
  | .crtcRegs => ["CRTC_WRITE", "RESET"]
  | .crtcSel => ["CRTC_SELECT", "RESET"]
  | .beam => ["CLOCK", "SET_TIMING", "RESET"]
  | .pens => ["PAL_PEN", "PAL_COLOUR", "RESET"]
  | .mode => ["PAL_MODE_ROM", "RESET"]
  | .irqCounters => ["PAL_MODE_ROM", "CLOCK", "INTACK", "RESTORE_IRQ_COUNTERS", "RESET"]
  | .irq => ["PAL_MODE_ROM", "CLOCK", "INTACK", "SET_IRQ_LINE", "RESET"]
  | .bankCfg => ["PAL_BANK", "RAMCFG_WR", "RESET"]
  | .upperRomSel => ["ROMSEL_WR", "RESET"]
  | .ram => ["MEM_WRITE", "RESET"]
  | .ports => ["PPI_A_WR", "PPI_B_WR", "PPI_C_WR", "PPI_CTRL_MODE", "PPI_CTRL_BSR", "RESET"]
  | .kbdRow => ["PPI_C_WR", "PPI_CTRL_BSR", "RESET"]
  | .sound => ["PPI_A_WR", "PPI_C_WR", "PPI_CTRL_BSR", "PSG_HOST_SELECT", "PSG_HOST_WRITE", "CLOCK", "RESET"]
  | .buffer => ["CLOCK", "AUDIO_FLUSH", "RESET"]

theorem mnemonic_mem_writers {i : Instr} {p : Part} (h : p ∈ writtenBy i) : i.mnemonic ∈ p.writers := by
  cases i <;> simp only [writtenBy, List.mem_cons, List.not_mem_nil, or_false] at h <;>
    rcases h with rfl | rfl | rfl | rfl | rfl | rfl | rfl | rfl | rfl | rfl | rfl | rfl | rfl | rfl <;>
    simp [Instr.mnemonic, Part.writers]

theorem Part.ports_eq_of_kept {s t : State} (h : Part.ports.kept s t) :
    t.ppi = { s.ppi with kbdRow := t.ppi.kbdRow } := by
  have e : ({ t.ppi with kbdRow := 0 } : Ppi) = { s.ppi with kbdRow := 0 } := h
  exact congrArg (fun x : Ppi => { x with kbdRow := t.ppi.kbdRow }) e

theorem Part.sound_eq_of_kept {s t : State} (h : Part.sound.kept s t) :
    t.psg = { s.psg with obuf := t.psg.obuf } := by
  have e : ({ t.psg with obuf := [] } : SoundChip) = { s.psg with obuf := [] } := h
  exact congrArg (fun x : SoundChip => { x with obuf := t.psg.obuf }) e

/-- Settles O56: a part that changed is one the instruction writes, and R72 names that instruction for it. -/
theorem componentsHaveTheirWriters : Obligations.ComponentsHaveTheirWriters := by
  intro i s t h
  have writer (p : Part) (hp : ¬ p.kept s t) : i.mnemonic ∈ p.writers :=
    mnemonic_mem_writers (not_not.mp fun hn => hp (exec_kept h hn))
  have kept : t.params = s.params ∧ t.mem.romImage = s.mem.romImage ∧ t.pending = s.pending ∧ s.trace <+: t.trace := by
    obtain k | ⟨r, rfl⟩ := exec_frame h
    · exact ⟨k.params, k.romImage, k.pending, k.trace⟩
    · exact ⟨rfl, rfl, rfl, ⟨[], by simp⟩⟩
  refine ⟨fun c => writer .crtcRegs ?_, fun c => writer .crtcSel c, fun c => writer .beam ?_,
    fun c => writer .pens ?_, fun c => writer .mode ?_, fun c => writer .irqCounters ?_, fun c => writer .irq c,
    fun c => writer .bankCfg c, fun c => writer .upperRomSel c, fun c => writer .ram ?_,
    fun c => writer .ports (mt Part.ports_eq_of_kept c), fun c => writer .kbdRow c,
    fun c => writer .sound (mt Part.sound_eq_of_kept c), fun c => writer .buffer c, kept⟩ <;>
  · intro k
    simp_all [Part.kept]

end Sys2Proof.Machine
end

section
/-! Proofs of family other: marks and reads (60_exceptions.md R441, R443; 20_memory.md R103). -/

namespace Sys2Proof.Machine

/-! Host calls: what they can do, said once (R98, R101). -/

theorem loadROM_ok {s : State} {i : Nat} {bytes : List Byte} (h : i < 256 ∧ bytes.length = 0x4000) :
    loadROM s i bytes = .running (s.setMem { s.mem with
      romImage := s.mem.romImage.set i (some ⟨bytes.toArray, by simpa using h.2⟩) h.1 }) := by
  unfold loadROM; rw [dif_pos h]

theorem loadROM_bad {s : State} {i : Nat} {bytes : List Byte} (h : ¬ (i < 256 ∧ bytes.length = 0x4000)) :
    loadROM s i bytes = .ended (s.raiseFault (.contract .rom)) := by
  unfold loadROM; rw [dif_neg h]; rfl

theorem unloadROM_ok {s : State} {i : Nat} (h : i < 256) :
    unloadROM s i = .running (s.setMem { s.mem with romImage := s.mem.romImage.set i none h }) := by
  unfold unloadROM; rw [dif_pos h]

theorem unloadROM_bad {s : State} {i : Nat} (h : ¬ i < 256) :
    unloadROM s i = .ended (s.raiseFault (.contract .rom)) := by
  unfold unloadROM; rw [dif_neg h]; rfl

theorem bulkLoadRAM_ok {s : State} {bytes : List Byte} {n : Nat} (h : (n = 4 ∨ n = 8) ∧ bytes.length = n * 0x4000) :
    bulkLoadRAM s bytes n = .running (s.setMem { s.mem with
      ram := cellsFrom 0 bytes ++ s.mem.ram.filter (fun c => decide (bytes.length ≤ c.1)) }) := by
  unfold bulkLoadRAM; rw [if_pos h, h.2]

theorem bulkLoadRAM_bad {s : State} {bytes : List Byte} {n : Nat}
    (h : ¬ ((n = 4 ∨ n = 8) ∧ bytes.length = n * 0x4000)) :
    bulkLoadRAM s bytes n = .ended (s.raiseFault (.contract .bulk)) := by
  unfold bulkLoadRAM; rw [if_neg h]; rfl

section Running

variable {s : State} (hf : s.faultMark = none)
include hf

theorem runHostCall_loadROM (i : Nat) (bytes : List Byte) :
    runHostCall (.loadROM i bytes) s = .next (loadROM s i bytes).state := by
  apply stimulus_running hf

theorem runHostCall_unloadROM (i : Nat) : runHostCall (.unloadROM i) s = .next (unloadROM s i).state := by
  apply stimulus_running hf

theorem runHostCall_bulkLoadRAM (bytes : List Byte) (n : Nat) :
    runHostCall (.bulkLoadRAM bytes n) s = .next (bulkLoadRAM s bytes n).state := by
  apply stimulus_running hf

theorem runHostCall_selectBank (i : Nat) : runHostCall (.selectBank i) s = .next (selectBank s i).state := by
  apply stimulus_running hf

end Running

/-- A host call changes the memory unit, its RAM only by a bulk load inside RAM, or raises a fault. -/
theorem runHostCall_cases (c : HostCall) (s : State) :
    (∃ m : MemoryUnit, runHostCall c s = .next (s.setMem m) ∧ (m.ram = s.mem.ram ∨
      ∃ bytes : List Byte, bytes.length ≤ ramSize ∧
        m.ram = cellsFrom 0 bytes ++ s.mem.ram.filter (fun x => decide (bytes.length ≤ x.1)))) ∨
    (s.faultMark = none ∧ ∃ f, runHostCall c s = .next (s.raiseFault f)) := by
  cases hf : s.faultMark with
  | some f => exact .inl ⟨s.mem, runHostCall_stuck hf c, .inl rfl⟩
  | none =>
    cases c with
    | loadROM i bytes =>
      rw [runHostCall_loadROM hf]
      by_cases h : i < 256 ∧ bytes.length = 0x4000
      · rw [loadROM_ok h]; exact .inl ⟨_, rfl, .inl rfl⟩
      · rw [loadROM_bad h]; exact .inr ⟨rfl, _, rfl⟩
    | unloadROM i =>
      rw [runHostCall_unloadROM hf]
      by_cases h : i < 256
      · rw [unloadROM_ok h]; exact .inl ⟨_, rfl, .inl rfl⟩
      · rw [unloadROM_bad h]; exact .inr ⟨rfl, _, rfl⟩
    | bulkLoadRAM bytes n =>
      rw [runHostCall_bulkLoadRAM hf]
      by_cases h : (n = 4 ∨ n = 8) ∧ bytes.length = n * 0x4000
      · rw [bulkLoadRAM_ok h]; exact .inl ⟨_, rfl, .inr ⟨bytes, by unfold ramSize; omega, rfl⟩⟩
      · rw [bulkLoadRAM_bad h]; exact .inr ⟨rfl, _, rfl⟩
    | selectBank i =>
      rw [runHostCall_selectBank hf]
      by_cases h : i < 8
      · rw [selectBank_lt h]; exact .inl ⟨_, rfl, .inl rfl⟩
      · rw [selectBank_ge (Nat.le_of_not_lt h)]; exact .inr ⟨rfl, _, rfl⟩

/-- A host call keeps the refusal mark. -/
theorem runHostCall_refusalMark {c : HostCall} {s t : State} (h : runHostCall c s = .next t) :
    t.refusalMark = s.refusalMark := by
  obtain ⟨m, e, -⟩ | ⟨-, f, e⟩ := runHostCall_cases c s <;> rw [e] at h <;> cases h <;> rfl

/-- An illegal word refuses, or the state is stuck. -/
theorem execIllegal_cases (s : State) :
    execIllegal s = .next s ∨ (s.faultMark = none ∧ execIllegal s = .next (s.refuse .illegalStimulus)) := by
  cases hf : s.faultMark with
  | some f => exact .inl (execIllegal_stuck hf)
  | none => exact .inr ⟨rfl, execIllegal_running hf⟩

/-! Marks. -/

/-- A first refusal is kept, and a new one never comes with a new fault (R443, R447). -/
def MarksKept (s t : State) : Prop :=
  (∀ r, s.refusalMark = some r → t.refusalMark = some r) ∧
  (s.faultMark = none → t.faultMark ≠ none → t.refusalMark = s.refusalMark)

theorem MarksKept.of_refusalMark {s t : State} (h : t.refusalMark = s.refusalMark) : MarksKept s t :=
  ⟨fun r hr => by rw [h, hr], fun _ _ => h⟩

theorem MarksKept.refuse (s : State) (r : Refusal) : MarksKept s (s.refuse r) :=
  ⟨fun r' hr => by simp [State.refuse, hr], fun hf hn => absurd hf hn⟩

theorem step_keeps_marks {s t : State} (h : step s = .next t) : MarksKept s t := by
  refine step_relates (R := MarksKept) (fun s => .of_refusalMark rfl) (fun s rest t h => h) (fun i s t h => ?_)
    (fun s t h => ?_) (fun c s t h => .of_refusalMark (runHostCall_refusalMark h)) h
  · obtain k | ⟨r, rfl⟩ := exec_frame h
    · exact .of_refusalMark k.refusalMark
    · exact .refuse s r
  · obtain e | ⟨-, e⟩ := execIllegal_cases s <;> rw [e] at h <;> cases h
    · exact .of_refusalMark rfl
    · exact .refuse s _

/-- Every step answers a next state (R441, R443). -/
theorem step_next (s : State) : ∃ t, step s = .next t := by
  obtain ⟨-, e⟩ | ⟨st, rest, i, -, -, e⟩ | ⟨st, rest, x, -, -, e⟩ | ⟨c, rest, -, e⟩ := step_cases s <;> rw [e]
  · exact ⟨s, rfl⟩
  · obtain ⟨t, h, -⟩ := exec_framed i (s.setPending rest)
    exact ⟨t, h⟩
  · obtain e | ⟨-, e⟩ := execIllegal_cases (s.setPending rest) <;> exact ⟨_, e⟩
  · obtain ⟨m, e, -⟩ | ⟨-, f, e⟩ := runHostCall_cases c (s.setPending rest) <;> exact ⟨_, e⟩

/-- A step of a faulted state takes an input at most (R441). -/
theorem step_stuck {s : State} {f : Fault} (h : s.faultMark = some f) :
    ∃ rest, step s = .next { s with pending := rest } := by
  obtain ⟨-, e⟩ | ⟨st, rest, i, -, -, e⟩ | ⟨st, rest, x, -, -, e⟩ | ⟨c, rest, -, e⟩ := step_cases s <;> rw [e]
  · exact ⟨s.pending, rfl⟩
  · exact ⟨rest, exec_stuck (s := s.setPending rest) h i⟩
  · exact ⟨rest, execIllegal_stuck (s := s.setPending rest) h⟩
  · exact ⟨rest, runHostCall_stuck (s := s.setPending rest) h c⟩

/-- Settles O46: the frame of a stimulus stops at a fault mark, and what refuses does nothing else. -/
theorem marksAreStickyAndFaultIsStuck : Obligations.MarksAreStickyAndFaultIsStuck := by
  have marked {s : State} (h : s.faultMark ≠ none) : ∃ f, s.faultMark = some f := Option.ne_none_iff_exists'.mp h
  refine ⟨fun i s h => ?_, fun c s h => ?_, fun s h => ?_, fun s => ?_⟩
  · obtain ⟨f, hf⟩ := marked h
    exact exec_stuck hf i
  · obtain ⟨f, hf⟩ := marked h
    exact runHostCall_stuck hf c
  · obtain ⟨f, hf⟩ := marked h
    exact step_stuck hf
  · obtain ⟨t, h⟩ := step_next s
    exact ⟨t, h, step_keeps_marks h⟩

/-! Reads. -/

/-- `t` is `s` with another value returned, count of draws and fault mark. -/
def ReadsOnly (s t : State) : Prop := t = { s with returned := t.returned, draws := t.draws, faultMark := t.faultMark }

theorem giveByte_readsOnly (s : State) (r : Except Fault Byte) : ReadsOnly s (giveByte s r).state := by
  cases r <;> rfl

theorem psgBusRead_readsOnly (s : State) : ReadsOnly s (psgBusRead s).2 ∧ (psgBusRead s).2.faultMark = s.faultMark := by
  unfold psgBusRead
  split
  · split <;> exact ⟨rfl, rfl⟩
  · exact ⟨rfl, rfl⟩

theorem readHalf_eq (dir : Dir) (n : BitVec 4) (s : State) :
    readHalf dir n s = (if dir = .OUT then n else Config.drawNibble s.draws,
      { s with draws := s.draws + if dir = .OUT then 0 else 1 }) := by
  unfold readHalf
  split <;> rfl

theorem crtcRead_readsOnly (s : State) : ReadsOnly s (reading .crtcSel s fun s =>
    if s.sync.crtcSel.val < s.params.firstRwReg then giveByte s (.ok 0)
    else reading (.crtcReg s.sync.crtcSel) s fun s => giveByte s (.ok (s.crtc s.sync.crtcSel))).state := by
  unfold reading
  dsimp only
  repeat' split
  all_goals rfl

/-- What a read answers (R103, R171): MEM_READ and CRTC_READ alone may mark a fault. -/
theorem exec_read {i : Instr} (hi : i.mnemonic ∈ readMnemonics) {s : State} (hf : s.faultMark = none) :
    ∃ t, exec i s = .next t ∧ ReadsOnly s t ∧
      (i.mnemonic ≠ "MEM_READ" → i.mnemonic ≠ "CRTC_READ" → t.faultMark = s.faultMark) := by
  cases i
  case palRd p | ramcfgRd p | crtcRdFn0 p | crtcRdFn1 p | crtcStatusRd p | romselRd p | printerRd p | ppiCtrlRd p
      | expRd p =>
    exact ⟨_, exec_undefinedRead hf p _ (by simp), rfl, fun _ _ => rfl⟩
  case unknownRd p => exact ⟨_, exec_unknownRd hf p, rfl, fun _ _ => rfl⟩
  case queryVsync => exact ⟨_, exec_queryVsync hf, rfl, fun _ _ => rfl⟩
  case ppiBRd p => exact ⟨_, exec_ppiBRd hf p, rfl, fun _ _ => rfl⟩
  case ppiCRd p => exact ⟨_, exec_ppiCRd hf p, by simp only [readHalf_eq]; rfl, fun _ _ => by simp [readHalf_eq]⟩
  case ppiARd p =>
    obtain ⟨hr, hm⟩ := psgBusRead_readsOnly s
    refine ⟨_, exec_ppiARd hf p, ?_⟩
    split
    · exact ⟨by rw [hr]; rfl, fun _ _ => hm⟩
    · exact ⟨rfl, fun _ _ => rfl⟩
  case memRead a => exact ⟨_, exec_memRead hf a, giveByte_readsOnly s _, fun h => absurd rfl h⟩
  case crtcRead p => exact ⟨_, exec_crtcRead hf p, crtcRead_readsOnly s, fun _ h => absurd rfl h⟩
  all_goals simp [Instr.mnemonic, readMnemonics] at hi

/-- Settles O55: a stuck state stays, and each of the sixteen reads answers one that differs in the three fields. -/
theorem readsKeepBlockState : Obligations.ReadsKeepBlockState := by
  intro i s hi
  cases hf : s.faultMark with
  | some f => exact ⟨s.returned, s.draws, s.faultMark, exec_stuck hf i, fun _ _ => hf⟩
  | none =>
    obtain ⟨t, h, hr, hm⟩ := exec_read hi hf
    exact ⟨t.returned, t.draws, t.faultMark, by rw [h]; exact congrArg _ hr, hf ▸ hm⟩

end Sys2Proof.Machine
end

section
/-! Proofs of family other: the encoding (30_encoding.md R130 to R143). -/

namespace Sys2Proof.Machine

open Sys2Proof.Laws

/-! The fields of a word, as bits and as numbers (R130, R131). -/

theorem wordClass_toNat (w : StimWord) : (wordClass w).toNat = w.toNat / 2 ^ 25 := by
  have := w.isLt
  simp [wordClass, BitVec.extractLsb'_toNat, Nat.shiftRight_eq_div_pow]
  omega

theorem wordData_toNat (w : StimWord) : (wordData w).toNat = w.toNat % 256 := by
  simp [wordData, BitVec.extractLsb'_toNat]

theorem wordKind_toNat (w : StimWord) : (wordKind w).toNat = w.toNat / 2 ^ 8 % 16 := by
  simp [wordKind, BitVec.extractLsb'_toNat, Nat.shiftRight_eq_div_pow]

theorem wordReserved_toNat (w : StimWord) : (wordReserved w).toNat = w.toNat / 2 ^ 12 % 2 ^ 12 := by
  simp [wordReserved, BitVec.extractLsb'_toNat, Nat.shiftRight_eq_div_pow]

theorem wordDir_iff (w : StimWord) : wordDir w = true ↔ w.toNat / 2 ^ 24 % 2 = 1 := by
  unfold wordDir BitVec.getLsbD
  rw [Nat.testBit_eq_decide_div_mod_eq, decide_eq_true_eq]

/-- A word is its four fields side by side (R130). -/
theorem busWord_fields (w : StimWord) : busWord (wordClass w) (wordDir w) (wordAddr w) (wordData w) = w := by
  refine BitVec.eq_of_getLsbD_eq fun i hi => ?_
  simp only [busWord, wordClass, wordDir, wordAddr, wordData, BitVec.getLsbD_append, BitVec.getLsbD_extractLsb',
    BitVec.getLsbD_ofBool]
  interval_cases i <;> simp

/-- A class-10 word with nothing in its reserved bits is its kind and its argument byte (R131). -/
theorem kindWord_fields {w : StimWord} (hc : wordClass w = 2) (hd : wordDir w = false) (hr : wordReserved w = 0) :
    kindWord (wordKind w) (wordData w) = w := by
  have c := wordClass_toNat w
  have d := mt (wordDir_iff w).mpr (by simp [hd])
  have r := wordReserved_toNat w
  rw [hc] at c
  rw [hr] at r
  refine BitVec.eq_of_toNat_eq ?_
  simp only [kindWord, toNat_append_eq_add, wordKind_toNat, wordData_toNat]
  simp at c d r ⊢
  omega

@[simp] theorem wordClass_kindWord (k : BitVec 4) (d : Byte) : wordClass (kindWord k d) = 2 := by
  refine BitVec.eq_of_toNat_eq ?_
  have := k.isLt; have := d.isLt
  simp only [wordClass_toNat, kindWord, toNat_append_eq_add]
  simp; omega

@[simp] theorem wordDir_kindWord (k : BitVec 4) (d : Byte) : wordDir (kindWord k d) = false := by
  have := k.isLt; have := d.isLt
  refine Bool.eq_false_iff.mpr fun h => ?_
  rw [wordDir_iff] at h
  simp only [kindWord, toNat_append_eq_add] at h
  simp at h; omega

@[simp] theorem wordReserved_kindWord (k : BitVec 4) (d : Byte) : wordReserved (kindWord k d) = 0 := by
  refine BitVec.eq_of_toNat_eq ?_
  have := k.isLt; have := d.isLt
  simp only [wordReserved_toNat, kindWord, toNat_append_eq_add]
  simp; omega

@[simp] theorem wordKind_kindWord (k : BitVec 4) (d : Byte) : wordKind (kindWord k d) = k := by
  refine BitVec.eq_of_toNat_eq ?_
  have := k.isLt; have := d.isLt
  simp only [wordKind_toNat, kindWord, toNat_append_eq_add]
  simp; omega

@[simp] theorem wordData_kindWord (k : BitVec 4) (d : Byte) : wordData (kindWord k d) = d := by
  refine BitVec.eq_of_toNat_eq ?_
  have := d.isLt
  simp only [wordData_toNat, kindWord, toNat_append_eq_add]
  simp; omega

/-! What each form of word decodes to. -/

theorem decode_ioReadWord (q : Params) (p : Addr) :
    decode q (Stimulus.ofWord (ioReadWord p)) = .ok (decodeIoRead q p) := by
  simp [decode, Stimulus.ofWord, ioReadWord]

/-- A well-formed instruction is what its stimulus decodes to (R142). -/
theorem decode_encode (q : Params) (i : Instr) (h : i.wellFormed q = true) : decode q (encode i) = .ok i := by
  cases i
  case palPen p d | palColour p d | palModeRom p d | palBank p d =>
    simp only [Instr.wellFormed, onPal, Bool.and_eq_true, beq_iff_eq] at h
    simp [encode, encodeWord, decode_ioWriteWord, decodeIoWrite, h]
  case crtcSelect p d | crtcWrite p d | crtcWrFn2 p d | crtcWrFn3 p d =>
    simp only [Instr.wellFormed, onCrtc, Bool.and_eq_true, beq_iff_eq] at h
    simp [encode, encodeWord, decode_ioWriteWord, decodeIoWrite, h]
  case ppiAWr p d | ppiBWr p d | ppiCWr p d =>
    simp only [Instr.wellFormed, onPpi, Bool.and_eq_true, beq_iff_eq] at h
    simp [encode, encodeWord, decode_ioWriteWord, decodeIoWrite, h]
  case ppiCtrlMode p d | ppiCtrlBsr p d =>
    simp only [Instr.wellFormed, onPpi, Bool.and_eq_true, beq_iff_eq, Bool.not_eq_true'] at h
    simp [encode, encodeWord, decode_ioWriteWord, decodeIoWrite, h]
  case ramcfgWr p d | romselWr p d | printerWr p d | expWr p d | unknownWr p d =>
    simp only [Instr.wellFormed, beq_iff_eq] at h
    simp [encode, encodeWord, decode_ioWriteWord, decodeIoWrite, h]
  case palRd p | ramcfgRd p | romselRd p | printerRd p | expRd p | unknownRd p =>
    simp only [Instr.wellFormed, beq_iff_eq] at h
    simp [encode, encodeWord, decode_ioReadWord, decodeIoRead, h]
  case crtcRdFn0 p | crtcRdFn1 p | crtcStatusRd p | crtcRead p =>
    simp only [Instr.wellFormed, onCrtc, Bool.and_eq_true, beq_iff_eq] at h
    simp [encode, encodeWord, decode_ioReadWord, decodeIoRead, h]
  case ppiARd p | ppiBRd p | ppiCRd p | ppiCtrlRd p =>
    simp only [Instr.wellFormed, onPpi, Bool.and_eq_true, beq_iff_eq] at h
    simp [encode, encodeWord, decode_ioReadWord, decodeIoRead, h]
  case memRead a | memWrite a v => simp [encode, encodeWord, decode, Stimulus.ofWord]
  case setIrqLine b => cases b <;> simp [encode, encodeWord, decode, Stimulus.ofWord, decodeKind]
  all_goals simp [encode, encodeWord, decode, Stimulus.ofWord, decodeKind, noArgument]

/-! What decodes is well-formed and has the word it was read from. -/

theorem decodeIoWrite_wellFormed (q : Params) (p : Addr) (d : Byte) :
    (decodeIoWrite q p d).wellFormed q = true ∧ encodeWord (decodeIoWrite q p d) = ioWriteWord p d := by
  unfold decodeIoWrite
  split
  case h_1 hd => split <;> simp [Instr.wellFormed, onPal, encodeWord, *]
  case h_3 hd => split <;> simp [Instr.wellFormed, onCrtc, encodeWord, *]
  case h_6 hd =>
    split
    case h_4 hf => split <;> simp [Instr.wellFormed, onPpi, encodeWord, *]
    all_goals simp [Instr.wellFormed, onPpi, encodeWord, *]
  all_goals simp [Instr.wellFormed, encodeWord, *]

theorem decodeIoRead_wellFormed (q : Params) (p : Addr) :
    (decodeIoRead q p).wellFormed q = true ∧ encodeWord (decodeIoRead q p) = ioReadWord p := by
  unfold decodeIoRead
  split
  case h_3 hd => split <;> simp [Instr.wellFormed, onCrtc, encodeWord, *]
  case h_6 hd => split <;> simp [Instr.wellFormed, onPpi, encodeWord, *]
  all_goals simp [Instr.wellFormed, encodeWord, *]

theorem noArgument_ok {d : Byte} {i j : Instr} (h : noArgument d i = .ok j) : d = 0 ∧ j = i := by
  unfold noArgument at h
  split at h
  · cases h; exact ⟨by assumption, rfl⟩
  · cases h

/-- A byte whose upper seven bits are 0 is its lowest bit. -/
theorem eq_bit_of_upper_zero {d : Byte} (h : d.extractLsb' 1 7 = 0) : (if d.getLsbD 0 then 1 else 0 : Byte) = d := by
  revert d; decide

theorem kind_cases (k : BitVec 4) : k = 0 ∨ k = 1 ∨ k = 2 ∨ k = 3 ∨ k = 4 ∨ k = 5 ∨ k = 6 ∨ k = 7 ∨ k = 8 ∨ k = 9 ∨
    10 ≤ k.toNat := by
  revert k; decide

/-- The kinds 10 to 15 are reserved (R143). -/
theorem decodeKind_reserved {k : BitVec 4} (hk : 10 ≤ k.toNat) (d : Byte) (st : Stimulus) :
    decodeKind k d st = .error .reservedKind := by
  have ne : k ≠ 0 ∧ k ≠ 1 ∧ k ≠ 2 ∧ k ≠ 3 ∧ k ≠ 4 ∧ k ≠ 5 ∧ k ≠ 6 ∧ k ≠ 7 ∧ k ≠ 8 ∧ k ≠ 9 := by
    revert k; decide
  simp only [decodeKind, ne, if_false]

theorem decodeKind_wellFormed {q : Params} {k : BitVec 4} {d : Byte} {st : Stimulus} {i : Instr}
    (h : decodeKind k d st = .ok i) : i.wellFormed q = true ∧ encodeWord i = kindWord k d := by
  have plain {j : Instr} (h : noArgument d j = .ok i) (hj : j.wellFormed q = true ∧ encodeWord j = kindWord k 0) :
      i.wellFormed q = true ∧ encodeWord i = kindWord k d := by
    obtain ⟨rfl, rfl⟩ := noArgument_ok h
    exact hj
  obtain rfl | rfl | rfl | rfl | rfl | rfl | rfl | rfl | rfl | rfl | hk := kind_cases k
  · exact plain (j := .clock) h ⟨rfl, rfl⟩
  · exact plain (j := .intack) h ⟨rfl, rfl⟩
  · exact plain (j := .reset) h ⟨rfl, rfl⟩
  · exact plain (j := .setTiming st.timing) h ⟨rfl, rfl⟩
  · exact plain (j := .restoreIrqCounters st.irqCounters) h ⟨rfl, rfl⟩
  · cases h; exact ⟨rfl, rfl⟩
  · cases h; exact ⟨rfl, rfl⟩
  · have h : (if d.extractLsb' 1 7 = 0 then Except.ok (.setIrqLine (d.getLsbD 0))
        else Except.error IllegalWord.argumentByte) = .ok i := h
    split at h
    · rename_i hd
      cases h
      exact ⟨rfl, congrArg (kindWord 7) (eq_bit_of_upper_zero hd)⟩
    · cases h
  · exact plain (j := .queryVsync) h ⟨rfl, rfl⟩
  · exact plain (j := .audioFlush) h ⟨rfl, rfl⟩
  · rw [decodeKind_reserved hk] at h; cases h

/-- Everything that decodes is well-formed and has the word it was read from (R142). -/
theorem wellFormed_of_decode {q : Params} {st : Stimulus} {i : Instr} (h : decode q st = .ok i) :
    i.wellFormed q = true ∧ encodeWord i = st.word := by
  have fields := busWord_fields st.word
  unfold decode at h
  dsimp only at h
  split at h
  · rename_i hc
    rw [hc] at fields
    split at h
    · rename_i hd
      rw [hd] at fields
      cases h
      exact (decodeIoWrite_wellFormed q _ _).imp_right fun e => e.trans fields
    · rename_i hd
      split at h
      · rename_i h0
        rw [h0, Bool.eq_false_iff.mpr hd] at fields
        cases h
        exact (decodeIoRead_wellFormed q _).imp_right fun e => e.trans fields
      · cases h
  · split at h
    · rename_i hc
      rw [hc] at fields
      split at h
      · rename_i hd
        rw [hd] at fields
        cases h
        exact ⟨rfl, fields⟩
      · rename_i hd
        split at h
        · rename_i h0
          rw [h0, Bool.eq_false_iff.mpr hd] at fields
          cases h
          exact ⟨rfl, fields⟩
        · cases h
    · split at h
      · rename_i hc
        split at h
        · cases h
        · rename_i hr
          rw [not_or, not_not, Bool.not_eq_true] at hr
          rw [← kindWord_fields hc hr.1 hr.2]
          exact decodeKind_wellFormed h
      · cases h

/-- Settles O47: the encoder and the decoder are inverse on well-formed instructions and legal words. -/
theorem decodeAndEncodeAgree : Obligations.DecodeAndEncodeAgree :=
  ⟨decode_encode, fun _ _ _ h => wellFormed_of_decode h⟩

/-! Legal words. -/

/-- What R143 leaves: a bus access whose data byte is 0 where it reads, or a class-10 word of a kind below 10 with
nothing in the reserved bits and no more argument than its kind takes. -/
def legalWord (w : StimWord) : Prop :=
  ((wordClass w = 0 ∨ wordClass w = 1) ∧ (wordDir w = true ∨ wordData w = 0)) ∨
  (wordClass w = 2 ∧ wordDir w = false ∧ wordReserved w = 0 ∧
    ((wordKind w ∈ [0, 1, 2, 3, 4, 8, 9] ∧ wordData w = 0) ∨ wordKind w ∈ [5, 6] ∨
      (wordKind w = 7 ∧ (wordData w).extractLsb' 1 7 = 0)))

theorem noArgument_ok_iff (d : Byte) (i : Instr) : (∃ j, noArgument d i = .ok j) ↔ d = 0 := by
  by_cases h : d = 0#8 <;> simp [noArgument, h]

theorem decodeKind_ok_iff (k : BitVec 4) (d : Byte) (st : Stimulus) : (∃ i, decodeKind k d st = .ok i) ↔
    (k ∈ [0, 1, 2, 3, 4, 8, 9] ∧ d = 0) ∨ k ∈ [5, 6] ∨ (k = 7 ∧ d.extractLsb' 1 7 = 0) := by
  obtain rfl | rfl | rfl | rfl | rfl | rfl | rfl | rfl | rfl | rfl | hk := kind_cases k
  case inr.inr.inr.inr.inr.inr.inr.inr.inr.inr =>
    rw [decodeKind_reserved hk]
    have ne : k ∉ [0, 1, 2, 3, 4, 8, 9] ∧ k ∉ [5, 6] ∧ k ≠ 7 := by revert k; decide
    simp only [ne, false_and, or_self, iff_false]
    rintro ⟨i, h⟩
    cases h
  case inr.inr.inr.inr.inr.inr.inr.inl =>
    have e : decodeKind 7 d st = if d.extractLsb' 1 7 = 0 then Except.ok (.setIrqLine (d.getLsbD 0))
      else Except.error IllegalWord.argumentByte := rfl
    rw [e]
    by_cases h : d.extractLsb' 1 7 = 0#7 <;> simp [h]
  case inr.inr.inr.inr.inr.inl => exact ⟨fun _ => .inr (.inl (by decide)), fun _ => ⟨_, rfl⟩⟩
  case inr.inr.inr.inr.inr.inr.inl => exact ⟨fun _ => .inr (.inl (by decide)), fun _ => ⟨_, rfl⟩⟩
  all_goals exact (noArgument_ok_iff d _).trans (by simp)

/-- The decoder reads exactly the legal words (R142, R143). -/
theorem decode_ok_iff (q : Params) (st : Stimulus) : (∃ i, decode q st = .ok i) ↔ legalWord st.word := by
  unfold decode legalWord
  dsimp only
  by_cases h0 : wordClass st.word = 0#2
  · cases hd : wordDir st.word <;> by_cases hz : wordData st.word = 0#8 <;> simp [h0, hz]
  · by_cases h1 : wordClass st.word = 1#2
    · cases hd : wordDir st.word <;> by_cases hz : wordData st.word = 0#8 <;> simp [h1, hz]
    · by_cases h2 : wordClass st.word = 2#2
      · cases hd : wordDir st.word <;> by_cases hr : wordReserved st.word = 0#12 <;>
          simp [h2, hr, decodeKind_ok_iff]
      · simp [h0, h1, h2]

/-- R143's list of illegal words, by number, is what the decoder does not read. -/
theorem illegalWord_iff (w : StimWord) : illegalWord w.toNat ↔ ¬ legalWord w := by
  have hw := w.isLt
  have class_eq (n : Nat) (hn : n < 4) : wordClass w = BitVec.ofNat 2 n ↔ w.toNat / 2 ^ 25 = n := by
    rw [← BitVec.toNat_inj, wordClass_toNat, BitVec.toNat_ofNat, Nat.mod_eq_of_lt hn]
  have kind_eq (n : Nat) (hn : n < 16) : wordKind w = BitVec.ofNat 4 n ↔ w.toNat / 2 ^ 8 % 16 = n := by
    rw [← BitVec.toNat_inj, wordKind_toNat, BitVec.toNat_ofNat, Nat.mod_eq_of_lt hn]
  have data_eq : wordData w = 0#8 ↔ w.toNat % 256 = 0 := by
    rw [← BitVec.toNat_inj, wordData_toNat]; rfl
  have reserved_eq : wordReserved w = 0#12 ↔ w.toNat / 2 ^ 12 % 2 ^ 12 = 0 := by
    rw [← BitVec.toNat_inj, wordReserved_toNat]; rfl
  have upper_eq : (wordData w).extractLsb' 1 7 = 0#7 ↔ w.toNat % 256 / 2 = 0 := by
    rw [← BitVec.toNat_inj]
    simp [BitVec.extractLsb'_toNat, Nat.shiftRight_eq_div_pow, wordData_toNat]
    omega
  have dir_false : wordDir w = false ↔ w.toNat / 2 ^ 24 % 2 = 0 := by
    rw [← Bool.not_eq_true, wordDir_iff]; omega
  unfold illegalWord legalWord
  simp only [List.mem_cons, List.not_mem_nil, or_false, BitVec.ofNat_eq_ofNat, class_eq 0 (by decide), class_eq 1 (by decide),
    class_eq 2 (by decide), kind_eq 0 (by decide), kind_eq 1 (by decide), kind_eq 2 (by decide), kind_eq 3 (by decide),
    kind_eq 4 (by decide), kind_eq 5 (by decide), kind_eq 6 (by decide), kind_eq 7 (by decide), kind_eq 8 (by decide),
    kind_eq 9 (by decide), data_eq, reserved_eq, upper_eq, wordDir_iff, dir_false]
  omega

/-- Settles O44: fetching takes the input and the decoder reads it. -/
theorem stepRunsDecodedStimulus : Obligations.StepRunsDecodedStimulus := by
  intro s st rest i hp hd _
  simp only [step, fetch, hp, hd]
  rfl

/-- Settles O45: R143's words are those the decoder rejects, and a rejected word refuses. -/
theorem illegalWordsAreRefused : Obligations.IllegalWordsAreRefused := by
  intro s st rest hf hp
  refine ⟨fun h => ?_, fun h => ?_⟩
  · rw [illegalWord_iff, ← decode_ok_iff s.params st] at h
    cases hd : decode s.params st with
    | ok i => exact absurd ⟨i, hd⟩ h
    | error e =>
      simp only [step, fetch, hp, hd]
      exact execIllegal_running (s := s.setPending rest) hf
  · rw [illegalWord_iff, not_not, ← decode_ok_iff s.params st] at h
    obtain ⟨i, hd⟩ := h
    exact ⟨i, hd, by simp only [step, fetch, hp, hd]; rfl⟩

/-! The table of R141. -/

/-- Two rows that differ in a bit both care for. -/
def rowsDisjoint (a b : Row) : Prop := a.pattern &&& b.care ≠ b.pattern &&& a.care

theorem not_accepts_of_disjoint {a b : Row} (h : rowsDisjoint a b) {w : StimWord} (ha : a.accepts w = true) :
    b.accepts w = false := by
  refine Bool.eq_false_iff.mpr fun hb => h ?_
  rw [← beq_iff_eq.mp ha, ← beq_iff_eq.mp hb, BitVec.and_assoc, BitVec.and_assoc, BitVec.and_comm a.care]

/-- A field of an accepted word carries the row's bits. -/
theorem accepts_extract {r : Row} {w : StimWord} (h : r.accepts w = true) (start len : Nat) :
    w.extractLsb' start len &&& r.care.extractLsb' start len = r.pattern.extractLsb' start len := by
  rw [← BitVec.extractLsb'_and, beq_iff_eq.mp h]

/-- A row whose words are all legal: it cares for the class, the direction and, where R143 asks for zeros, for those. -/
def legalRow (r : Row) : Prop :=
  wordClass r.care = 3 ∧ wordDir r.care = true ∧
  (((wordClass r.pattern = 0 ∨ wordClass r.pattern = 1) ∧
      (wordDir r.pattern = true ∨ (wordData r.care = 0xFF ∧ wordData r.pattern = 0))) ∨
    (wordClass r.pattern = 2 ∧ wordDir r.pattern = false ∧ wordReserved r.care = 0xFFF ∧ wordReserved r.pattern = 0 ∧
      wordKind r.care = 0xF ∧
      ((wordKind r.pattern ∈ [0, 1, 2, 3, 4, 8, 9] ∧ wordData r.care = 0xFF ∧ wordData r.pattern = 0) ∨
        wordKind r.pattern ∈ [5, 6] ∨
        (wordKind r.pattern = 7 ∧ wordData r.care = 0xFE ∧ wordData r.pattern = 0))))

theorem legalRow_of_mem : ∀ r ∈ opcodeTable, legalRow r.2 := by unfold legalRow; decide

theorem rowsDisjoint_of_table : opcodeTable.Pairwise fun a b => rowsDisjoint a.2 b.2 := by unfold rowsDisjoint; decide

/-- Where a row cares for a whole field, its words have the row's field. -/
theorem and_ones_eq {n : Nat} {x c m : BitVec n} (h : x &&& c = m) (hc : c = BitVec.allOnes n) : x = m := by
  rw [← h, hc, BitVec.and_allOnes]

theorem legalWord_of_accepts {r : Row} {w : StimWord} (hr : legalRow r) (h : r.accepts w = true) : legalWord w := by
  obtain ⟨hclass, hdir, hrow⟩ := hr
  have cls : wordClass w = wordClass r.pattern := and_ones_eq (accepts_extract h 25 2) hclass
  have dir : wordDir w = wordDir r.pattern := by
    have e := congrArg (fun x : StimWord => x.getLsbD 24) (beq_iff_eq.mp h)
    simp only [BitVec.getLsbD_and] at e
    unfold wordDir at hdir ⊢
    rwa [hdir, Bool.and_true] at e
  have data : wordData w &&& wordData r.care = wordData r.pattern := accepts_extract h 0 8
  unfold legalWord
  rw [cls, dir]
  obtain ⟨hc, hd | ⟨hcare, hzero⟩⟩ | ⟨hc, hd, hrescare, hreszero, hkindcare, hkind⟩ := hrow
  · exact .inl ⟨hc, .inl hd⟩
  · exact .inl ⟨hc, .inr ((and_ones_eq data hcare).trans hzero)⟩
  · have res : wordReserved w = 0 := (and_ones_eq (accepts_extract h 12 12) hrescare).trans hreszero
    have kind : wordKind w = wordKind r.pattern := and_ones_eq (accepts_extract h 8 4) hkindcare
    rw [kind]
    refine .inr ⟨hc, hd, res, ?_⟩
    obtain ⟨hk, hcare, hzero⟩ | hk | ⟨hk, hcare, hzero⟩ := hkind
    · exact .inl ⟨hk, (and_ones_eq data hcare).trans hzero⟩
    · exact .inr (.inl hk)
    · have upper : ∀ d : Byte, d &&& 0xFE = 0 → d.extractLsb' 1 7 = 0 := by decide
      exact .inr (.inr ⟨hk, upper _ (by rw [← hcare, data, hzero])⟩)

/-- In a list no two of whose elements pass, an element that passes is all that passes. -/
theorem filter_eq_singleton {α : Type} {p : α → Bool} {l : List α} {x : α} (hx : x ∈ l) (hp : p x = true)
    (hl : l.Pairwise fun a b => p a = true → p b = false) : l.filter p = [x] := by
  induction hl with
  | nil => cases hx
  | @cons y ys hy _ ih =>
    cases hpy : p y with
    | true =>
      have none_pass : ys.filter p = [] := List.filter_eq_nil_iff.mpr fun b hb => by simp [hy b hb hpy]
      obtain rfl | hmem := List.mem_cons.mp hx
      · rw [List.filter_cons_of_pos hp, none_pass]
      · exact absurd hp (by simp [hy x hmem hpy])
    | false =>
      obtain rfl | hmem := List.mem_cons.mp hx
      · rw [hp] at hpy; cases hpy
      · rw [List.filter_cons_of_neg (by simp [hpy]), ih hmem]

theorem row_mem_opcodeTable (i : Instr) : (i.mnemonic, i.row) ∈ opcodeTable := by
  cases i <;> dsimp only [Instr.mnemonic, Instr.row] <;> decide

/-- The per-instruction family of Laws/PerInstr, over every instruction. -/
theorem row_accepts_encodeWord {i : Instr} (h : i.wellFormed Params.reference = true) :
    i.row.accepts (encodeWord i) = true :=
  match i with
  | .palPen p d => EncodedWordMatchesRow.palPen p d h
  | .palColour p d => EncodedWordMatchesRow.palColour p d h
  | .palModeRom p d => EncodedWordMatchesRow.palModeRom p d h
  | .palBank p d => EncodedWordMatchesRow.palBank p d h
  | .ramcfgWr p d => EncodedWordMatchesRow.ramcfgWr p d h
  | .romselWr p d => EncodedWordMatchesRow.romselWr p d h
  | .printerWr p d => EncodedWordMatchesRow.printerWr p d h
  | .expWr p d => EncodedWordMatchesRow.expWr p d h
  | .unknownWr p d => EncodedWordMatchesRow.unknownWr p d h
  | .crtcSelect p d => EncodedWordMatchesRow.crtcSelect p d h
  | .crtcWrite p d => EncodedWordMatchesRow.crtcWrite p d h
  | .crtcWrFn2 p d => EncodedWordMatchesRow.crtcWrFn2 p d h
  | .crtcWrFn3 p d => EncodedWordMatchesRow.crtcWrFn3 p d h
  | .ppiAWr p d => EncodedWordMatchesRow.ppiAWr p d h
  | .ppiBWr p d => EncodedWordMatchesRow.ppiBWr p d h
  | .ppiCWr p d => EncodedWordMatchesRow.ppiCWr p d h
  | .ppiCtrlMode p d => EncodedWordMatchesRow.ppiCtrlMode p d h
  | .ppiCtrlBsr p d => EncodedWordMatchesRow.ppiCtrlBsr p d h
  | .palRd p => EncodedWordMatchesRow.palRd p h
  | .ramcfgRd p => EncodedWordMatchesRow.ramcfgRd p h
  | .romselRd p => EncodedWordMatchesRow.romselRd p h
  | .printerRd p => EncodedWordMatchesRow.printerRd p h
  | .expRd p => EncodedWordMatchesRow.expRd p h
  | .unknownRd p => EncodedWordMatchesRow.unknownRd p h
  | .crtcRdFn0 p => EncodedWordMatchesRow.crtcRdFn0 p h
  | .crtcRdFn1 p => EncodedWordMatchesRow.crtcRdFn1 p h
  | .crtcStatusRd p => EncodedWordMatchesRow.crtcStatusRd p h
  | .crtcRead p => EncodedWordMatchesRow.crtcRead p h
  | .ppiARd p => EncodedWordMatchesRow.ppiARd p h
  | .ppiBRd p => EncodedWordMatchesRow.ppiBRd p h
  | .ppiCRd p => EncodedWordMatchesRow.ppiCRd p h
  | .ppiCtrlRd p => EncodedWordMatchesRow.ppiCtrlRd p h
  | .memRead a => EncodedWordMatchesRow.memRead a h
  | .memWrite a v => EncodedWordMatchesRow.memWrite a v h
  | .clock => EncodedWordMatchesRow.clock h
  | .intack => EncodedWordMatchesRow.intack h
  | .reset => EncodedWordMatchesRow.reset h
  | .queryVsync => EncodedWordMatchesRow.queryVsync h
  | .audioFlush => EncodedWordMatchesRow.audioFlush h
  | .setTiming t => EncodedWordMatchesRow.setTiming t h
  | .restoreIrqCounters t => EncodedWordMatchesRow.restoreIrqCounters t h
  | .psgHostSelect r => EncodedWordMatchesRow.psgHostSelect r h
  | .psgHostWrite v => EncodedWordMatchesRow.psgHostWrite v h
  | .setIrqLine b => EncodedWordMatchesRow.setIrqLine b h

/-- Settles O48: a word that decodes lies in its instruction's row and, the rows being disjoint, in no other; a word in
some row is legal and decodes. -/
theorem tableRowsMatchDecoder : Obligations.TableRowsMatchDecoder := by
  intro w
  split
  case h_1 i hd =>
    obtain ⟨hwf, hword⟩ := wellFormed_of_decode hd
    have hword : encodeWord i = w := hword
    refine filter_eq_singleton (row_mem_opcodeTable i) (hword ▸ row_accepts_encodeWord hwf) ?_
    exact rowsDisjoint_of_table.imp fun h ha => not_accepts_of_disjoint h ha
  case h_2 e hd =>
    refine List.filter_eq_nil_iff.mpr fun r hr ha => ?_
    obtain ⟨i, hi⟩ := (decode_ok_iff Params.reference (Stimulus.ofWord w)).mpr
      (legalWord_of_accepts (legalRow_of_mem r hr) ha)
    rw [hd] at hi
    cases hi

/-- Settles O49: each word is read by the decoder as it stands. -/
theorem sampleWordsDecode : Obligations.SampleWordsDecode := by
  unfold Obligations.SampleWordsDecode
  decide

end Sys2Proof.Machine
end

section
/-! Proofs of family other: the SyncTimer's half of a CLOCK (41_synctimer.md R215 to R221). -/

namespace Sys2Proof.Machine

/-! The three forms of a CLOCK that raises nothing. -/

/-- Settles O29: the form of the SyncTimer's half inside a scanline, with the SoundChip's after it. -/
theorem clockInsideScanlineAdvancesColumn : Obligations.ClockInsideScanlineAdvancesColumn := by
  intro s h hc hn
  have ⟨_, ⟨hht, _, inside, _⟩, _⟩ := h
  obtain ⟨hhsp, -⟩ := inside hc
  obtain ⟨c, l, hl, e⟩ := execClock_of_sync h (syncOnClock_mid hht hc hhsp hn)
  refine ⟨c, l, hl, e.trans ?_⟩
  rw [SyncTimer.countH_eq]
  rfl

/-- Settles O30: the form of the SyncTimer's half that starts hsync, with the SoundChip's after it. -/
theorem clockStartsHsyncAndCountsInterrupts : Obligations.ClockStartsHsyncAndCountsInterrupts := by
  intro s h hc hn
  exact execClock_of_sync h (syncOnClock_hsync_runs h.2.1 hc hn)

/-- Settles O31: the form of the SyncTimer's half at an end of scanline, with the SoundChip's after it. -/
theorem clockEndsScanlineAndEntersVsync : Obligations.ClockEndsScanlineAndEntersVsync := by
  intro s h hc
  exact execClock_of_sync h (syncOnClock_end_runs h.2.1 hc)

/-! The faults of the SyncTimer's half. -/

/-- The flow ended at a raise of `m`. -/
def Flow.raises (f : Flow) (m : Fault) : Prop := ∃ t, f = .ended t ∧ t.faultMark = some m

theorem Flow.raises_ended (s : State) (m : Fault) : (Flow.ended (s.raiseFault m)).raises m := ⟨_, rfl, rfl⟩

theorem Flow.raises_andThen {f : Flow} {m : Fault} (h : f.raises m) (k : State → Flow) : (f.andThen k).raises m := by
  obtain ⟨t, rfl, ht⟩ := h
  exact ⟨t, rfl, ht⟩

theorem reading_raises {c : Component} {s : State} (h : ¬ s.holds c) (k : State → Flow) :
    (reading c s k).raises (.unwritten c) := by
  rw [reading_unwritten (Bool.not_eq_false _ ▸ h)]
  exact Flow.raises_ended _ _

/-- A CLOCK whose first half raises ends there, with the SoundChip as it was (R186). -/
theorem execClock_of_raises {s : State} (hf : s.faultMark = none) {m : Fault} (h : (syncOnClock s).raises m) :
    ∃ t, exec .clock s = .next t ∧ t.faultMark = some m ∧ t.psg = s.psg := by
  obtain ⟨t, e, hm⟩ := h
  have o := Flow.obeys_state (syncOnClock_obeys s)
  rw [e] at o
  exact ⟨t, by rw [execClock_eq hf, e]; rfl, hm, o.psg⟩

section Raises

variable {s : State}

theorem syncOnClock_raises_ht (h : ¬ s.holds (.crtcReg s.params.crtcIndex.ht)) :
    (syncOnClock s).raises (.unwritten (.crtcReg s.params.crtcIndex.ht)) := by
  refine Flow.raises_andThen ?_ _
  unfold clockColumn
  exact reading_raises (c := .crtcReg s.params.crtcIndex.ht) (s := s.setSync { s.sync with col := s.sync.col + 1 }) h _

theorem syncOnClock_raises_col (h : s.holds (.crtcReg s.params.crtcIndex.ht)) (hc : s.ht < s.sync.col) :
    (syncOnClock s).raises (.overrun .col) := by
  refine Flow.raises_andThen ?_ _
  have h' : (s.setSync { s.sync with col := s.sync.col + 1 }).holds (.crtcReg s.params.crtcIndex.ht) := h
  unfold clockColumn
  dsimp only [State.setSync_params]
  rw [reading_written h', if_pos]
  · exact Flow.raises_ended _ _
  · show s.ht + 1 < s.sync.col + 1
    omega

section Inside

variable (hw : s.holds (.crtcReg s.params.crtcIndex.ht)) (hc : s.sync.col < s.ht)
include hw hc

theorem syncOnClock_raises_hsp (h : ¬ s.holds (.crtcReg s.params.crtcIndex.hsp)) :
    (syncOnClock s).raises (.unwritten (.crtcReg s.params.crtcIndex.hsp)) := by
  rw [syncOnClock_inside hw hc]
  exact reading_raises (c := .crtcReg s.params.crtcIndex.hsp)
    (s := s.setSync { s.sync.countH with col := s.sync.col + 1 }) h _

theorem syncOnClock_raises_hw (hp : s.holds (.crtcReg s.params.crtcIndex.hsp)) (hn : s.hsyncStarts)
    (h : ¬ s.holds .hw) : (syncOnClock s).raises (.unwritten .hw) := by
  rw [syncOnClock_hsyncTest hw hc hp, if_pos hn]
  exact reading_raises (c := .hw) (s := (s.setSync { s.sync.countH with col := s.sync.col + 1 }).setSync
    { (s.setSync { s.sync.countH with col := s.sync.col + 1 }).sync with inH := true }) h _

theorem syncOnClock_raises_icount (hp : s.holds (.crtcReg s.params.crtcIndex.hsp)) (hn : s.hsyncStarts)
    (hh : s.holds .hw) (hv : s.pal.vdelay = 0) (hi : 52 ≤ s.pal.icount) :
    (syncOnClock s).raises (.overrun .icount) := by
  rw [syncOnClock_hsync hw hc hp hn hh]
  unfold palOnHsync
  dsimp only
  rw [if_pos, if_pos]
  · exact Flow.raises_ended _ _
  · show 52 < s.pal.icount + 1
    omega
  · exact hv

end Inside

/-! The line counter and the vsync test, each from a state of its own. -/

theorem clockLine_raises_mra (h : ¬ s.holds (.crtcReg s.params.crtcIndex.mra)) :
    (clockLine s).raises (.unwritten (.crtcReg s.params.crtcIndex.mra)) := by
  unfold clockLine
  exact reading_raises (c := .crtcReg s.params.crtcIndex.mra) (s := s.setSync { s.sync with line := s.sync.line + 1 }) h _

/-- With MRA written the line counter compares, and past its limit it raises; at its limit the row counter runs. -/
theorem clockLine_written (h : s.holds (.crtcReg s.params.crtcIndex.mra)) :
    (s.mra < s.sync.line → (clockLine s).raises (.overrun .line)) ∧
    (s.sync.line = s.mra → clockLine s = clockRow (s.setSync { s.sync with line := s.sync.line + 1 })) := by
  have h' : (s.setSync { s.sync with line := s.sync.line + 1 }).holds (.crtcReg s.params.crtcIndex.mra) := h
  have e : clockLine s = if s.mra + 1 < s.sync.line + 1 then
      raiseAndEnd (s.setSync { s.sync with line := s.sync.line + 1 }) (.overrun .line)
    else if s.sync.line + 1 = s.mra + 1 then clockRow (s.setSync { s.sync with line := s.sync.line + 1 })
    else .running (s.setSync { s.sync with line := s.sync.line + 1 }) := by
    unfold clockLine
    exact reading_written h' _
  rw [e]
  refine ⟨fun hl => ?_, fun hl => ?_⟩
  · rw [if_pos (by omega)]
    exact Flow.raises_ended _ _
  · rw [if_neg (by omega), if_pos (by omega)]

theorem clockRow_raises_vt (h : ¬ s.holds (.crtcReg s.params.crtcIndex.vt)) :
    (clockRow s).raises (.unwritten (.crtcReg s.params.crtcIndex.vt)) := by
  unfold clockRow
  exact reading_raises (c := .crtcReg s.params.crtcIndex.vt)
    (s := s.setSync { s.sync with line := 0, row := s.sync.row + 1 }) h _

theorem clockRow_raises_row (h : s.holds (.crtcReg s.params.crtcIndex.vt)) (hr : s.vt < s.sync.row) :
    (clockRow s).raises (.overrun .row) := by
  have h' : (s.setSync { s.sync with line := 0, row := s.sync.row + 1 }).holds (.crtcReg s.params.crtcIndex.vt) := h
  unfold clockRow
  dsimp only [State.setSync_params]
  rw [reading_written h', if_pos]
  · exact Flow.raises_ended _ _
  · show s.vt + 1 < s.sync.row + 1
    omega

/-- The vsync test where it is due and no pulse runs (R217): VSP unwritten, or the width of a pulse that starts. -/
theorem vsyncTest_raises (hd : s.params.vsyncCheck = .perScanline ∨ s.sync.line = 0) (hv : s.sync.inV = false) :
    (¬ s.holds (.crtcReg s.params.crtcIndex.vsp) →
      (vsyncTest s).raises (.unwritten (.crtcReg s.params.crtcIndex.vsp))) ∧
    (s.holds (.crtcReg s.params.crtcIndex.vsp) → s.sync.row = s.vsp → ¬ s.holds .vw →
      (vsyncTest s).raises (.unwritten .vw)) := by
  have e : vsyncTest s = reading (.crtcReg s.params.crtcIndex.vsp) s fun s =>
      if s.sync.row = s.vsp then enterVsync s else .running s := by
    unfold vsyncTest
    rw [if_pos hd, if_neg (by simp [hv])]
  rw [e]
  refine ⟨fun h => reading_raises h _, fun h hr hw => ?_⟩
  rw [reading_written h, if_pos hr]
  exact reading_raises (c := .vw) (s := s.setSync { s.sync with inV := true }) hw _

section End

variable (hw : s.holds (.crtcReg s.params.crtcIndex.ht)) (hc : s.sync.col = s.ht)
include hw hc

/-- At an end of scanline the line counter runs on a state with the registers, the line and the row of `s` and the
countdowns run. -/
theorem syncOnClock_end_eq : ∃ x : SyncTimer, x.regs = s.sync.regs ∧ x.line = s.sync.line ∧ x.row = s.sync.row ∧
    x.inV = (s.sync.inV && decide (1 < s.sync.vcount)) ∧
    syncOnClock s = (clockLine (s.setSync x)).andThen vsyncTest :=
  ⟨_, by simp, by simp, by simp, by rw [SyncTimer.countV_eq]; simp, syncOnClock_end hw hc⟩

/-- The faults of the line and row counters. -/
theorem syncOnClock_raises_line :
    (¬ s.holds (.crtcReg s.params.crtcIndex.mra) →
      (syncOnClock s).raises (.unwritten (.crtcReg s.params.crtcIndex.mra))) ∧
    (s.holds (.crtcReg s.params.crtcIndex.mra) → s.mra < s.sync.line → (syncOnClock s).raises (.overrun .line)) ∧
    (s.holds (.crtcReg s.params.crtcIndex.mra) → s.sync.line = s.mra → ¬ s.holds (.crtcReg s.params.crtcIndex.vt) →
      (syncOnClock s).raises (.unwritten (.crtcReg s.params.crtcIndex.vt))) ∧
    (s.holds (.crtcReg s.params.crtcIndex.mra) → s.sync.line = s.mra → s.holds (.crtcReg s.params.crtcIndex.vt) →
      s.vt < s.sync.row → (syncOnClock s).raises (.overrun .row)) := by
  obtain ⟨x, hregs, hline, hrow, -, e⟩ := syncOnClock_end_eq hw hc
  have hmra : (s.setSync x).mra = s.mra := by simp [State.mra, State.crtc, hregs]
  have hvt : ((s.setSync x).setSync { x with line := x.line + 1 }).vt = s.vt := by simp [State.vt, State.crtc, hregs]
  rw [e]
  refine ⟨fun h => ?_, fun h hl => ?_, fun h hl hv => ?_, fun h hl hv hr => ?_⟩ <;> refine Flow.raises_andThen ?_ _
  · exact clockLine_raises_mra (s := s.setSync x) h
  · exact (clockLine_written (s := s.setSync x) h).1 (by rw [hmra, State.setSync_sync, hline]; exact hl)
  · rw [(clockLine_written (s := s.setSync x) h).2 (by rw [hmra, State.setSync_sync, hline]; exact hl)]
    exact clockRow_raises_vt (s := (s.setSync x).setSync { x with line := x.line + 1 }) hv
  · rw [(clockLine_written (s := s.setSync x) h).2 (by rw [hmra, State.setSync_sync, hline]; exact hl)]
    refine clockRow_raises_row (s := (s.setSync x).setSync { x with line := x.line + 1 }) hv ?_
    rw [hvt]
    show s.vt < x.row
    rw [hrow]
    exact hr

/-- The faults of the vsync test, where the line and row counters raise none. -/
theorem syncOnClock_raises_vsync (hm : s.holds (.crtcReg s.params.crtcIndex.mra)) (hl : s.sync.line ≤ s.mra)
    (hr : s.sync.line = s.mra → s.holds (.crtcReg s.params.crtcIndex.vt) ∧ s.sync.row ≤ s.vt) (ht : s.vsyncTested) :
    (¬ s.holds (.crtcReg s.params.crtcIndex.vsp) →
      (syncOnClock s).raises (.unwritten (.crtcReg s.params.crtcIndex.vsp))) ∧
    (s.holds (.crtcReg s.params.crtcIndex.vsp) → s.nextRow = s.vsp → ¬ s.holds .vw →
      (syncOnClock s).raises (.unwritten .vw)) := by
  obtain ⟨x, hregs, hline, hrow, hinV, e⟩ := syncOnClock_end_eq hw hc
  have hmra : (s.setSync x).mra = s.mra := by simp [State.mra, State.crtc, hregs]
  have hvt : (s.setSync x).vt = s.vt := by simp [State.vt, State.crtc, hregs]
  have hnl : (s.setSync x).nextLine = s.nextLine := by simp [State.nextLine, hmra, hline]
  have hnr : (s.setSync x).nextRow = s.nextRow := by simp [State.nextRow, hmra, hvt, hline, hrow]
  have runs := clockLine_runs (s := s.setSync x) hm (by rw [hmra, State.setSync_sync, hline]; exact hl)
    (by rw [hmra, hvt, State.setSync_sync, hline, hrow]; exact hr)
  have hvsp : ((s.setSync x).setSync { x with line := s.nextLine, row := s.nextRow }).vsp = s.vsp := by
    simp [State.vsp, State.crtc, hregs]
  rw [e, runs, Flow.andThen_running, hnl, hnr]
  obtain ⟨hdue, hpulse⟩ := ht
  have tests := vsyncTest_raises (s := (s.setSync x).setSync { x with line := s.nextLine, row := s.nextRow }) hdue
    (by rw [State.setSync_sync, hinV]; simpa using hpulse)
  exact ⟨tests.1, fun h hv => tests.2 h (by rw [hvsp]; exact hv)⟩

end End

end Raises

/-- Outside `timingRuns` the SyncTimer's half raises one of its faults (R215, R216, R261, R490). -/
theorem syncOnClock_raises_of_not_timingRuns {s : State} (h : ¬ s.timingRuns) : ∃ m, (syncOnClock s).raises m := by
  by_contra none_raised
  rw [not_exists] at none_raised
  have hht : s.holds (.crtcReg s.params.crtcIndex.ht) := by
    by_contra hn
    exact none_raised _ (syncOnClock_raises_ht hn)
  have hcol : s.sync.col ≤ s.ht := by
    by_contra hn
    exact none_raised _ (syncOnClock_raises_col hht (by omega))
  refine h ⟨hht, hcol, fun hc => ?_, fun hc => ?_⟩
  · have hhsp : s.holds (.crtcReg s.params.crtcIndex.hsp) := by
      by_contra hn
      exact none_raised _ (syncOnClock_raises_hsp hht hc hn)
    refine ⟨hhsp, fun hs => ?_⟩
    have hhw : s.holds .hw := by
      by_contra hn
      exact none_raised _ (syncOnClock_raises_hw hht hc hhsp hs hn)
    refine ⟨hhw, fun hv => ?_⟩
    by_contra hn
    exact none_raised _ (syncOnClock_raises_icount hht hc hhsp hs hhw hv (by omega))
  · obtain ⟨rmra, rline, rvt, rrow⟩ := syncOnClock_raises_line hht hc
    have hmra : s.holds (.crtcReg s.params.crtcIndex.mra) := by
      by_contra hn
      exact none_raised _ (rmra hn)
    have hline : s.sync.line ≤ s.mra := by
      by_contra hn
      exact none_raised _ (rline hmra (by omega))
    have hrow : s.sync.line = s.mra → s.holds (.crtcReg s.params.crtcIndex.vt) ∧ s.sync.row ≤ s.vt := by
      intro hl
      have hvt : s.holds (.crtcReg s.params.crtcIndex.vt) := by
        by_contra hn
        exact none_raised _ (rvt hmra hl hn)
      refine ⟨hvt, ?_⟩
      by_contra hn
      exact none_raised _ (rrow hmra hl hvt (by omega))
    refine ⟨hmra, hline, hrow, fun ht => ?_⟩
    obtain ⟨rvsp, rvw⟩ := syncOnClock_raises_vsync hht hc hmra hline hrow ht
    have hvsp : s.holds (.crtcReg s.params.crtcIndex.vsp) := by
      by_contra hn
      exact none_raised _ (rvsp hn)
    refine ⟨hvsp, fun hr => ?_⟩
    by_contra hn
    exact none_raised _ (rvw hvsp hr hn)

/-- A sample due into a full buffer raises OVERRUN in the SoundChip's half (R393). -/
theorem soundOnClock_raises {s : State} (hd : s.sampleDue) (hr : ¬ s.bufferHasRoom) :
    (soundOnClock s).raises (.overrun .sampleBuffer) := by
  rw [soundOnClock_tone hd.1, if_pos hd.2]
  refine Flow.raises_andThen ?_ _
  obtain ⟨h, -⟩ | ⟨-, e⟩ := produceSample_cases (s.setPsg (s.psg.tick.toneUpdate s.params))
  · rw [State.setPsg_psg, (s.psg.tick.toneUpdate_same s.params).obuf] at h
    exact absurd h hr
  · rw [e]
    exact Flow.raises_ended _ _

theorem execClock_of_full {s : State} (hf : s.faultMark = none) (h : s.timingRuns) (hd : s.sampleDue)
    (hr : ¬ s.bufferHasRoom) : ∃ t, exec .clock s = .next t ∧ t.faultMark = some (.overrun .sampleBuffer) := by
  obtain ⟨u, l, hu, hu', -⟩ := syncOnClock_runs h
  have room : ¬ u.bufferHasRoom := by unfold State.bufferHasRoom; rw [hu'.psg, hu'.params]; exact hr
  obtain ⟨t, ht, hm⟩ := soundOnClock_raises (hu'.sampleDue.symm ▸ hd) room
  exact ⟨t, by rw [execClock_eq hf, hu, Flow.andThen_running, ht]; rfl, hm⟩

/-- Settles O32: each clause is one raise of the SyncTimer's half, ended there; the last is the SoundChip's. -/
theorem clockFaultsOnOverrun : Obligations.ClockFaultsOnOverrun := by
  intro s hf faults ix inside starts ends wraps tested
  have first {m : Fault} (h : (syncOnClock s).raises m) : faults m := execClock_of_raises hf h
  refine ⟨fun h => first (syncOnClock_raises_ht h), fun ⟨h, hc⟩ => first (syncOnClock_raises_col h hc),
    fun ⟨⟨h, hc⟩, hp⟩ => first (syncOnClock_raises_hsp h hc hp),
    fun ⟨⟨⟨h, hc⟩, hp, hs⟩, hw⟩ => first (syncOnClock_raises_hw h hc hp hs hw),
    fun ⟨⟨⟨h, hc⟩, hp, hs⟩, hw, hv, hi⟩ => first (syncOnClock_raises_icount h hc hp hs hw hv hi),
    fun ⟨⟨h, hc⟩, hm⟩ => first ((syncOnClock_raises_line h hc).1 hm),
    fun ⟨⟨h, hc⟩, hm, hl⟩ => first ((syncOnClock_raises_line h hc).2.1 hm hl),
    fun ⟨⟨⟨h, hc⟩, hm, hl⟩, hv⟩ => first ((syncOnClock_raises_line h hc).2.2.1 hm hl hv),
    fun ⟨⟨⟨h, hc⟩, hm, hl⟩, hv, hr⟩ => first ((syncOnClock_raises_line h hc).2.2.2 hm hl hv hr),
    fun ⟨⟨⟨h, hc⟩, hm, hl, hr, ht⟩, hv⟩ => first ((syncOnClock_raises_vsync h hc hm hl hr ht).1 hv),
    fun ⟨⟨⟨h, hc⟩, hm, hl, hr, ht⟩, hv, hn, hw⟩ => first ((syncOnClock_raises_vsync h hc hm hl hr ht).2 hv hn hw),
    fun h => (syncOnClock_raises_of_not_timingRuns h).imp fun _ => first, execClock_of_full hf⟩

/-! A CLOCK without a fault. -/

/-- A CLOCK that marks no fault ran to its end: `clockRuns` is no more than that. -/
theorem clockRuns_of_faultFree {s t : State} (h : exec .clock s = .next t) (ht : t.faultMark = none) : s.clockRuns := by
  cases hf : s.faultMark with
  | some f => rw [exec_stuck hf] at h; cases h; rw [hf] at ht; cases ht
  | none =>
    have runs : s.timingRuns := by
      by_contra hn
      obtain ⟨m, hm⟩ := syncOnClock_raises_of_not_timingRuns hn
      obtain ⟨u, hu, hmark, -⟩ := execClock_of_raises hf hm
      rw [h] at hu
      cases hu
      rw [ht] at hmark
      cases hmark
    refine ⟨hf, runs, fun hd => ?_⟩
    by_contra hr
    obtain ⟨u, hu, hmark⟩ := execClock_of_full hf runs hd hr
    rw [h] at hu
    cases hu
    rw [ht] at hmark
    cases hmark

end Sys2Proof.Machine
end

section
/-! Proofs of family other: the beam's step, its invariants and the frame period (41_synctimer.md R216, R221). -/
namespace Sys2Proof.Machine

/-! What a CLOCK that raises nothing does to the beam, the pulses and the interrupt counters. -/

/-- `t` follows `s` by a CLOCK without a fault: the registers it reads are kept, the beam moves on by one column, and the
ranges of the pulses and of the interrupt counters are kept. -/
structure BeamStep (s t : State) : Prop where
  params : t.params = s.params
  regs : t.sync.regs = s.sync.regs
  hw : t.sync.hw = s.sync.hw
  vw : t.sync.vw = s.sync.vw
  unwritten : t.unwritten = s.unwritten
  faultMark : t.faultMark = none
  col : t.sync.col = if s.sync.col = s.ht then 0 else s.sync.col + 1
  line : t.sync.line = if s.sync.col = s.ht then s.nextLine else s.sync.line
  row : t.sync.row = if s.sync.col = s.ht then s.nextRow else s.sync.row
  irqCounters : s.irqCountersInRange → t.irqCountersInRange
  pulses : s.widthsAgree → s.pulsesAgree → t.pulsesAgree

/-- A countdown run for one tick agrees with its flag again. -/
theorem countdown_agrees {b : Bool} {n : Nat} (h : b = decide (0 < n)) :
    (b && decide (1 < n)) = decide (0 < if b then n - 1 else n) := by
  subst h
  by_cases hn : 0 < n
  · simp only [hn, decide_true, Bool.true_and, if_true, decide_eq_decide]
    omega
  · simp [hn]

theorem countdown_le {b : Bool} {n k : Nat} (h : n ≤ k) : (if b then n - 1 else n) ≤ k := by
  split <;> omega

/-- A countdown that is loaded with a width where `e` holds agrees with its flag. -/
theorem loaded_agrees {b e : Bool} {n w : Nat} (h : b = decide (0 < n)) (hw : 0 < w) :
    (b || e) = decide (0 < if e then w else n) := by
  cases e
  · simpa using h
  · simp [hw]

theorem loaded_le {e : Bool} {n w k : Nat} (h : n ≤ k) (hw : w ≤ k) : (if e then w else n) ≤ k := by
  cases e
  · exact h
  · exact hw

/-- Entering vsync sets the delay to 2, which bounds no `icount` (R262). -/
theorem delay_inRange {e : Bool} {v i : Nat} (hv : v ≤ 2) (hi : v = 0 → i ≤ 51) :
    (if e then 2 else v) ≤ 2 ∧ ((if e then 2 else v) = 0 → i ≤ 51) := by
  cases e
  · exact ⟨hv, hi⟩
  · exact ⟨Nat.le_refl 2, nofun⟩

theorem clock_beamStep {s : State} (h : s.clockRuns) : ∃ t, exec .clock s = .next t ∧ BeamStep s t := by
  rcases Nat.lt_or_ge s.sync.col s.ht with hc | hc
  · by_cases hn : s.hsyncStarts
    · obtain ⟨c, l, -, e⟩ := clockStartsHsyncAndCountsInterrupts s h hc hn
      refine ⟨_, e, rfl, rfl, rfl, rfl, rfl, h.1, by simp [hc.ne], by simp [hc.ne], by simp [hc.ne], ?_, ?_⟩
      · intro ⟨hv, hi⟩
        refine ⟨Nat.le_trans (Nat.sub_le _ _) hv, fun (hv' : s.pal.vdelay - 1 = 0) => ?_⟩
        show (if s.pal.vdelay = 1 ∨ (s.pal.vdelay = 0 ∧ s.pal.icount + 1 = 52) then 0 else s.pal.icount + 1) ≤ 51
        split <;> omega
      · intro ⟨hw, _⟩ ⟨_, hv, _, hv16⟩
        have := width16_range (lowNibble (s.crtc s.params.crtcIndex.sw))
        exact ⟨(decide_eq_true (hw ▸ this.1)).symm, hv, hw ▸ this.2, hv16⟩
    · obtain ⟨c, l, -, e⟩ := clockInsideScanlineAdvancesColumn s h hc hn
      exact ⟨_, e, rfl, rfl, rfl, rfl, rfl, h.1, by simp [hc.ne], by simp [hc.ne], by simp [hc.ne], id,
        fun _ ⟨hh, hv, hh16, hv16⟩ => ⟨countdown_agrees hh, hv, countdown_le hh16, hv16⟩⟩
  · have hc := Nat.le_antisymm h.2.1.2.1 hc
    obtain ⟨c, l, -, e⟩ := clockEndsScanlineAndEntersVsync s h hc
    refine ⟨_, e, rfl, rfl, rfl, rfl, rfl, h.1, (if_pos hc).symm, (if_pos hc).symm, (if_pos hc).symm, ?_, ?_⟩
    · exact fun ⟨hv, hi⟩ => delay_inRange hv hi
    · intro ⟨_, hw⟩ ⟨hh, hv, hh16, hv16⟩
      obtain ⟨pos, le⟩ := hw ▸ width16_range (highNibble (s.crtc s.params.crtcIndex.sw))
      exact ⟨countdown_agrees hh, loaded_agrees (countdown_agrees hv) pos, countdown_le hh16,
        loaded_le (countdown_le hv16) le⟩

namespace BeamStep

variable {s t : State} (b : BeamStep s t)
include b

theorem ht : t.ht = s.ht := by simp only [State.ht, State.crtc, b.regs, b.params]
theorem mra : t.mra = s.mra := by simp only [State.mra, State.crtc, b.regs, b.params]
theorem vt : t.vt = s.vt := by simp only [State.vt, State.crtc, b.regs, b.params]

theorem holds (c : Component) : t.holds c ↔ s.holds c := by
  simp only [State.holds, isUnwritten, b.params, b.unwritten]

theorem positionInRange (h : s.positionInRange) : t.positionInRange := by
  obtain ⟨hc, hl, hr⟩ := h
  unfold State.positionInRange
  rw [b.ht, b.mra, b.vt, b.col, b.line, b.row, State.nextLine, State.nextRow]
  refine ⟨?_, ?_, ?_⟩ <;> split_ifs <;> omega

theorem timingReady (h : s.timingReady) : t.timingReady := by
  obtain ⟨-, hw, hp, hi⟩ := h
  refine ⟨b.faultMark, fun c hc => ?_, b.positionInRange hp, b.irqCounters hi⟩
  rw [b.params] at hc
  exact (b.holds c).2 (hw c hc)

end BeamStep

/-- Settles O33: counters in range raise nothing, and the beam's step keeps what `timingReady` asks for. -/
theorem clockKeepsCountersInRange : Obligations.ClockKeepsCountersInRange := by
  intro s h hs
  obtain ⟨t, e, b⟩ := clock_beamStep ⟨h.1, h.runs, hs⟩
  exact ⟨t, e, b.timingReady h⟩

/-! The frame's period (R221): the beam's place in the frame, as one number. -/

/-- The number of ticks of a frame before the beam's place. -/
def State.beamIndex (s : State) : Nat := (s.sync.row * (s.mra + 1) + s.sync.line) * (s.ht + 1) + s.sync.col

/-- The number of ticks of a frame. -/
def State.frameLength (s : State) : Nat := (s.ht + 1) * (s.mra + 1) * (s.vt + 1)

theorem beamIndex_lt_frameLength {s : State} (h : s.positionInRange) : s.beamIndex < s.frameLength := by
  obtain ⟨hc, hl, hr⟩ := h
  have lines : s.sync.row * (s.mra + 1) + s.sync.line ≤ s.vt * (s.mra + 1) + s.mra :=
    Nat.add_le_add (Nat.mul_le_mul_right _ hr) hl
  calc s.beamIndex ≤ (s.vt * (s.mra + 1) + s.mra) * (s.ht + 1) + s.ht := Nat.add_le_add (Nat.mul_le_mul_right _ lines) hc
    _ < (s.vt * (s.mra + 1) + s.mra) * (s.ht + 1) + s.ht + 1 := Nat.lt_succ_self _
    _ = s.frameLength := by unfold State.frameLength; ring

theorem BeamStep.frameLength {s t : State} (b : BeamStep s t) : t.frameLength = s.frameLength := by
  unfold State.frameLength
  rw [b.ht, b.mra, b.vt]

/-- One CLOCK moves the beam on by one tick of the frame. -/
theorem BeamStep.beamIndex {s t : State} (b : BeamStep s t) : t.beamIndex ≡ s.beamIndex + 1 [MOD s.frameLength] := by
  unfold State.beamIndex
  rw [b.ht, b.mra, b.col, b.line, b.row, State.nextLine, State.nextRow]
  split_ifs with hc hl hr
  · have wraps : (s.sync.row * (s.mra + 1) + s.sync.line) * (s.ht + 1) + s.sync.col + 1 = s.frameLength := by
      rw [hc, hl, hr, State.frameLength]
      ring
    rw [wraps]
    simp [Nat.ModEq]
  · rw [hc, hl, show ((s.sync.row + 1) * (s.mra + 1) + 0) * (s.ht + 1) + 0 =
      (s.sync.row * (s.mra + 1) + s.mra) * (s.ht + 1) + s.ht + 1 by ring]
  · rw [hc, show (s.sync.row * (s.mra + 1) + (s.sync.line + 1)) * (s.ht + 1) + 0 =
      (s.sync.row * (s.mra + 1) + s.sync.line) * (s.ht + 1) + s.ht + 1 by ring]
  · rfl

theorem clocks_stuck {s : State} (h : s.faultMark ≠ none) (n : Nat) : clocks n s = s := by
  obtain ⟨f, hf⟩ := Option.ne_none_iff_exists'.1 h
  induction n with
  | zero => rfl
  | succ n ih =>
    rw [clocks, exec_stuck hf]
    exact ih

/-- A run of CLOCKs without a fault moves the beam on by as many ticks. -/
theorem clocks_beamIndex {n : Nat} {s : State} (h : s.positionInRange) (hf : (clocks n s).faultMark = none) :
    (clocks n s).positionInRange ∧ (clocks n s).frameLength = s.frameLength ∧
      (clocks n s).beamIndex ≡ s.beamIndex + n [MOD s.frameLength] := by
  induction n generalizing s with
  | zero => exact ⟨h, rfl, rfl⟩
  | succ n ih =>
    obtain ⟨t, e⟩ : ∃ t, exec .clock s = .next t := by
      cases hs : s.faultMark with
      | none => exact ⟨_, execClock_eq hs⟩
      | some f => exact ⟨_, exec_stuck hs _⟩
    have hn : clocks (n + 1) s = clocks n t := by rw [clocks, e]
    rw [hn] at hf ⊢
    have ht : t.faultMark = none := by
      by_contra hm
      exact hm (clocks_stuck hm n ▸ hf)
    obtain ⟨u, e', b⟩ := clock_beamStep (clockRuns_of_faultFree e ht)
    obtain rfl : t = u := by rw [e] at e'; cases e'; rfl
    obtain ⟨hp, hl, hi⟩ := ih (b.positionInRange h) hf
    rw [b.frameLength] at hl hi
    refine ⟨hp, hl, hi.trans ?_⟩
    rw [Nat.add_comm n 1, ← Nat.add_assoc]
    exact b.beamIndex.add_right n

theorem position_of_beamIndex_eq_zero {s : State} (h : s.beamIndex = 0) :
    s.sync.col = 0 ∧ s.sync.line = 0 ∧ s.sync.row = 0 := by
  simp only [State.beamIndex, Nat.add_eq_zero_iff, Nat.mul_eq_zero, Nat.succ_ne_zero, or_false] at h
  obtain ⟨⟨hr, hl⟩, hc⟩ := h
  exact ⟨hc, hl, hr⟩

/-- Settles O58: a frame's worth of CLOCKs moves the beam on by 0 modulo the frame. -/
theorem framePeriodReturnsToOrigin : Obligations.FramePeriodReturnsToOrigin := by
  intro s _ hc hl hr t hf
  have inRange : s.positionInRange := by simp [State.positionInRange, hc, hl, hr]
  have origin : s.beamIndex = 0 := by simp [State.beamIndex, hc, hl, hr]
  obtain ⟨hp, hlen, hi⟩ := clocks_beamIndex inRange hf
  refine position_of_beamIndex_eq_zero ?_
  have lt := hlen ▸ beamIndex_lt_frameLength hp
  rw [origin, Nat.zero_add] at hi
  exact Nat.ModEq.eq_of_lt_of_lt (hi.trans (by simp [Nat.ModEq, State.frameLength])) lt (by simp [State.frameLength])

end Sys2Proof.Machine
end

section
/-! Proofs of family other: the SoundChip's half of a CLOCK (45_soundchip_generators.md R370 to R393). -/

namespace Sys2Proof.Machine

/-! The SoundChip's half as a function on the SoundChip. -/

/-- The chip after a tone update, with the sample produced where the update completes SAMPLE_DECIMATION (R371, R390). -/
def SoundChip.sampled (c : SoundChip) (q : Params) : SoundChip :=
  if c.scount = q.sampleDecimation then { c.clearAcc with obuf := c.obuf ++ [c.sample], scount := 0 } else c

/-- The chip after a CLOCK that raises nothing. -/
def SoundChip.clocked (c : SoundChip) (q : Params) : SoundChip :=
  if (c.stick + 1) % 16 % 8 = 0 then (c.tick.toneUpdate q).sampled q else c.tick

/-- The samples that CLOCK emits. -/
def SoundChip.clockSamples (c : SoundChip) (q : Params) : List Sample :=
  if (c.stick + 1) % 16 % 8 = 0 ∧ c.scount + 1 = q.sampleDecimation then [(c.tick.toneUpdate q).sample] else []

theorem SoundChip.clocked_between {c : SoundChip} (h : (c.stick + 1) % 16 % 8 ≠ 0) (q : Params) :
    c.clocked q = c.tick := if_neg h

theorem SoundChip.clocked_tone {c : SoundChip} (h : (c.stick + 1) % 16 % 8 = 0) (q : Params) :
    c.clocked q = (c.tick.toneUpdate q).sampled q := if_pos h

theorem SoundChip.sampled_due {c : SoundChip} {q : Params} (h : c.scount = q.sampleDecimation) :
    c.sampled q = { c.clearAcc with obuf := c.obuf ++ [c.sample], scount := 0 } := if_pos h

theorem SoundChip.sampled_not_due {c : SoundChip} {q : Params} (h : c.scount ≠ q.sampleDecimation) :
    c.sampled q = c := if_neg h

/-- The SoundChip's half of a CLOCK, where no sample is due into a full buffer. -/
theorem soundOnClock_eq {s : State} (h : s.sampleFits) :
    soundOnClock s = .running { s with
      psg := s.psg.clocked s.params
      trace := s.trace ++ sampleEvents (s.psg.clockSamples s.params) } := by
  by_cases h8 : (s.psg.stick + 1) % 16 % 8 = 0
  · rw [soundOnClock_tone h8, SoundChip.clocked_tone h8, SoundChip.clockSamples]
    by_cases hd : s.psg.scount + 1 = s.params.sampleDecimation
    · have room : s.psg.obuf.length < s.params.bufferCapacity := h ⟨h8, hd⟩
      rw [if_pos hd, if_pos ⟨h8, hd⟩, SoundChip.sampled_due (by rw [SoundChip.toneUpdate_scount]; exact hd)]
      obtain ⟨-, e⟩ | ⟨full, -⟩ := produceSample_cases (s.setPsg (s.psg.tick.toneUpdate s.params))
      · rw [e]
        rfl
      · rw [State.setPsg_psg, (s.psg.tick.toneUpdate_same s.params).obuf] at full
        exact absurd room (Nat.not_lt.2 full)
    · rw [if_neg hd, if_neg (fun h => hd h.2),
        SoundChip.sampled_not_due (by rw [SoundChip.toneUpdate_scount]; exact hd)]
      simp [sampleEvents, State.setPsg]
  · rw [soundOnClock_between h8, SoundChip.clocked_between h8, SoundChip.clockSamples, if_neg (fun h => h8 h.1)]
    simp [sampleEvents, State.setPsg]

/-- What a CLOCK that raises nothing does to the SoundChip and to the trace: its samples come last. -/
theorem clock_sound {s : State} (h : s.clockRuns) :
    ∃ t l, exec .clock s = .next t ∧ t.faultMark = none ∧ t.params = s.params ∧
      t.psg = s.psg.clocked s.params ∧ t.trace = s.trace ++ l ++ sampleEvents (s.psg.clockSamples s.params) ∧
      ∀ x y, Event.sample x y ∉ l := by
  obtain ⟨u, l, e, hu, hf, ht, hl⟩ := syncOnClock_runs h.2.1
  have fits : u.sampleFits := hu.sampleFits ▸ h.2.2
  have runs : exec .clock s = .next { u with
      psg := u.psg.clocked u.params
      trace := u.trace ++ sampleEvents (u.psg.clockSamples u.params) } := by
    rw [execClock_eq h.1, e, Flow.andThen_running, soundOnClock_eq fits]
    rfl
  refine ⟨_, l, runs, hf.trans h.1, hu.params, ?_, ?_, hl⟩
  · exact congrArg₂ SoundChip.clocked hu.psg hu.params
  · dsimp only
    rw [ht, hu.psg, hu.params]

/-! What the tick, a tone update and a sample leave alone, and what they write. -/

theorem SoundChip.sampled_keeps (c : SoundChip) (q : Params) :
    (c.sampled q).regs = c.regs ∧ (c.sampled q).psgSel = c.psgSel ∧ (c.sampled q).psgFn = c.psgFn ∧
    (c.sampled q).nperiod = c.nperiod ∧ (c.sampled q).eperiod = c.eperiod ∧
    (c.sampled q).ioADirOut = c.ioADirOut ∧ (c.sampled q).ioBDirOut = c.ioBDirOut := by
  unfold SoundChip.sampled
  split <;> exact ⟨rfl, rfl, rfl, rfl, rfl, rfl, rfl⟩

@[simp] theorem SoundChip.sampled_stick (c : SoundChip) (q : Params) : (c.sampled q).stick = c.stick := by
  unfold SoundChip.sampled; split <;> rfl
@[simp] theorem SoundChip.sampled_rng (c : SoundChip) (q : Params) : (c.sampled q).rng = c.rng := by
  unfold SoundChip.sampled; split <;> rfl
@[simp] theorem SoundChip.sampled_ncount (c : SoundChip) (q : Params) : (c.sampled q).ncount = c.ncount := by
  unfold SoundChip.sampled; split <;> rfl
@[simp] theorem SoundChip.sampled_nout (c : SoundChip) (q : Params) : (c.sampled q).nout = c.nout := by
  unfold SoundChip.sampled; split <;> rfl
@[simp] theorem SoundChip.sampled_shape (c : SoundChip) (q : Params) : (c.sampled q).shape = c.shape := by
  unfold SoundChip.sampled; split <;> rfl
@[simp] theorem SoundChip.sampled_hold (c : SoundChip) (q : Params) : (c.sampled q).hold = c.hold := by
  unfold SoundChip.sampled; split <;> rfl
@[simp] theorem SoundChip.sampled_ecount (c : SoundChip) (q : Params) : (c.sampled q).ecount = c.ecount := by
  unfold SoundChip.sampled; split <;> rfl
@[simp] theorem SoundChip.sampled_pos (c : SoundChip) (q : Params) : (c.sampled q).pos = c.pos := by
  unfold SoundChip.sampled; split <;> rfl
@[simp] theorem SoundChip.sampled_elevel (c : SoundChip) (q : Params) : (c.sampled q).elevel = c.elevel := by
  unfold SoundChip.sampled; split <;> rfl

theorem SoundChip.sampled_scount (c : SoundChip) (q : Params) :
    (c.sampled q).scount = if c.scount = q.sampleDecimation then 0 else c.scount := by
  unfold SoundChip.sampled; split <;> rfl

theorem SoundChip.sampled_obuf (c : SoundChip) (q : Params) :
    (c.sampled q).obuf = if c.scount = q.sampleDecimation then c.obuf ++ [c.sample] else c.obuf := by
  unfold SoundChip.sampled; split <;> rfl

/-- The tick, a tone update and a sample keep the registers and what the bus and the register writes set (R371). -/
theorem SoundChip.clocked_keeps (c : SoundChip) (q : Params) :
    (c.clocked q).regs = c.regs ∧ (c.clocked q).psgSel = c.psgSel ∧ (c.clocked q).psgFn = c.psgFn ∧
    (c.clocked q).nperiod = c.nperiod ∧ (c.clocked q).eperiod = c.eperiod ∧
    (c.clocked q).ioADirOut = c.ioADirOut ∧ (c.clocked q).ioBDirOut = c.ioBDirOut := by
  by_cases h : (c.stick + 1) % 16 % 8 = 0
  · obtain ⟨hregs, hsel, hfn, hn, he, ha, hb⟩ := (c.tick.toneUpdate q).sampled_keeps q
    have same := c.tick.toneUpdate_same q
    rw [SoundChip.clocked_tone h]
    exact ⟨hregs.trans same.regs, hsel.trans same.psgSel, hfn.trans same.psgFn, hn.trans same.nperiod,
      he.trans same.eperiod, ha.trans same.ioADirOut, hb.trans same.ioBDirOut⟩
  · rw [SoundChip.clocked_between h]
    exact ⟨rfl, rfl, rfl, rfl, rfl, rfl, rfl⟩

theorem SoundChip.clocked_stick (c : SoundChip) (q : Params) : (c.clocked q).stick = (c.stick + 1) % 16 := by
  unfold SoundChip.clocked
  split
  · rw [SoundChip.sampled_stick, SoundChip.toneUpdate_stick]
    rfl
  · rfl

/-- A tone update steps the noise generator of the chip before it (R372, R373). -/
theorem SoundChip.toneUpdate_noise (c : SoundChip) (q : Params) :
    (c.toneUpdate q).ncount = (c.updateNoise q).ncount ∧ (c.toneUpdate q).rng = (c.updateNoise q).rng ∧
      (c.toneUpdate q).nout = (c.updateNoise q).nout := by
  unfold SoundChip.toneUpdate
  dsimp only
  split <;> simp [SoundChip.updateChannels]

/-- The channels after a tone update: the noise output is the new one, the envelope's level the old (R372). -/
theorem SoundChip.toneUpdate_channels (c : SoundChip) (q : Params) :
    (c.toneUpdate q).chA = c.chA.update q (c.toneUpdate q).nout c.elevel ∧
    (c.toneUpdate q).chB = c.chB.update q (c.toneUpdate q).nout c.elevel ∧
    (c.toneUpdate q).chC = c.chC.update q (c.toneUpdate q).nout c.elevel := by
  rw [(c.toneUpdate_noise q).2.2]
  unfold SoundChip.toneUpdate
  dsimp only
  split <;> simp [SoundChip.updateChannels]

/-- The envelope step reads and writes the envelope's own fields only. -/
theorem SoundChip.updateEnvelope_congr {c d : SoundChip} (q : Params) (hp : d.eperiod = c.eperiod)
    (he : d.ecount = c.ecount) (hs : d.shape = c.shape) (hh : d.hold = c.hold) (ho : d.pos = c.pos)
    (hl : d.elevel = c.elevel) :
    (d.updateEnvelope q).ecount = (c.updateEnvelope q).ecount ∧ (d.updateEnvelope q).pos = (c.updateEnvelope q).pos ∧
      (d.updateEnvelope q).elevel = (c.updateEnvelope q).elevel := by
  unfold SoundChip.updateEnvelope
  rw [hp, he, hs, hh, ho]
  split
  · exact ⟨rfl, rfl, rfl⟩
  · exact ⟨rfl, rfl, hl⟩

/-- Every second tone update steps the envelope (R371, R386). -/
theorem SoundChip.toneUpdate_envelope (c : SoundChip) (q : Params) :
    (c.stick = 0 → (c.toneUpdate q).ecount = (c.updateEnvelope q).ecount ∧
      (c.toneUpdate q).pos = (c.updateEnvelope q).pos ∧ (c.toneUpdate q).elevel = (c.updateEnvelope q).elevel) ∧
    (c.stick ≠ 0 → (c.toneUpdate q).ecount = c.ecount ∧ (c.toneUpdate q).pos = c.pos ∧
      (c.toneUpdate q).elevel = c.elevel) := by
  have stick : ((c.updateNoise q).updateChannels q).stick = c.stick := c.updateNoise_stick q
  unfold SoundChip.toneUpdate
  dsimp only
  rw [stick]
  refine ⟨fun h => ?_, fun h => ?_⟩
  · rw [if_pos h]
    exact SoundChip.updateEnvelope_congr q (c.updateNoise_eperiod q) (c.updateNoise_ecount q) (c.updateNoise_shape q)
      (c.updateNoise_hold q) (c.updateNoise_pos q) (c.updateNoise_elevel q)
  · rw [if_neg h]
    exact ⟨c.updateNoise_ecount q, c.updateNoise_pos q, c.updateNoise_elevel q⟩

/-! Ticks and tone updates. -/

/-- Settles O34: the chip's half read field by field. -/
theorem clockCountsTicksAndToneUpdates : Obligations.ClockCountsTicksAndToneUpdates := by
  intro s h
  obtain ⟨t, l, e, hf, -, hpsg, htrace, hl⟩ := clock_sound h
  refine ⟨t, e, hf, ?_, ?_, fun h8 => ⟨?_, l, ?_, hl⟩, fun h8 => ?_⟩
  · rw [hpsg, SoundChip.clocked_stick]
  · rw [hpsg]
    exact s.psg.clocked_keeps s.params
  · rw [hpsg, SoundChip.clocked_between h8]
    rfl
  · rw [htrace, SoundChip.clockSamples, if_neg (fun h => h8 h.1)]
    simp [sampleEvents]
  · rw [hpsg, SoundChip.clocked_tone h8, SoundChip.sampled_scount, SoundChip.toneUpdate_scount]
    rfl

/-! Noise. -/

/-- A Galois step on numbers: the constant is XORed in when bit 0 is set, then the value is halved (R375). -/
theorem lfsrNext_galois_toNat (c : BitVec 18) (r : BitVec 17) :
    (lfsrNext (.galois c) r).toNat = (if r.toNat % 2 = 1 then r.toNat ^^^ c.toNat else r.toNat) / 2 := by
  have hr : r.toNat < 2 ^ 18 := Nat.lt_trans r.isLt (by decide)
  have wide : (r.setWidth 18).toNat = r.toNat := by rw [BitVec.toNat_setWidth, Nat.mod_eq_of_lt hr]
  have halved (x : BitVec 18) : ((x >>> 1).setWidth 17).toNat = x.toNat / 2 := by
    rw [BitVec.toNat_setWidth, BitVec.toNat_ushiftRight, Nat.shiftRight_eq_div_pow]
    exact Nat.mod_eq_of_lt (by have := x.isLt; omega)
  have bit : r.getLsbD 0 = decide (r.toNat % 2 = 1) := by rw [BitVec.getLsbD, Nat.testBit_zero]
  unfold lfsrNext
  dsimp only
  rw [halved, bit]
  by_cases h : r.toNat % 2 = 1
  · rw [decide_eq_true h, if_pos rfl, if_pos h, BitVec.toNat_xor, wide]
  · rw [decide_eq_false h, if_neg (by decide), if_neg h, wide]

/-- An admitted LFSR_FORM keeps a non-zero register non-zero (R375). -/
theorem lfsrNext_ne_zero {f : LfsrForm} {r : BitVec 17} (hf : f.keepsNonZero = true) (hr : r ≠ 0) :
    lfsrNext f r ≠ 0 := by
  cases f with
  | other =>
    show (if Config.lfsrOther r = 0 then 1 else Config.lfsrOther r) ≠ 0
    split
    · decide
    · assumption
  | galois c =>
    have pos : 0 < r.toNat := Nat.pos_of_ne_zero fun h => hr (BitVec.eq_of_toNat_eq h)
    intro h
    have zero := congrArg BitVec.toNat h
    rw [lfsrNext_galois_toNat] at zero
    replace zero : (if r.toNat % 2 = 1 then r.toNat ^^^ c.toNat else r.toNat) / 2 = 0 := zero
    split at zero
    · have top : (r.toNat ^^^ c.toNat).testBit 17 = true := by
        rw [Nat.testBit_xor, Nat.testBit_lt_two_pow r.isLt, Bool.false_xor]
        exact hf
      have := Nat.ge_two_pow_of_testBit top
      omega
    · omega

theorem SoundChip.updateNoise_counts {c : SoundChip} {q : Params} (h : c.ncount + 1 < c.nperiod) :
    c.updateNoise q = { c with ncount := c.ncount + 1 } := if_neg (by omega)

theorem SoundChip.updateNoise_steps {c : SoundChip} {q : Params} (h : c.nperiod ≤ c.ncount + 1) :
    c.updateNoise q = { c with
      ncount := 0
      nout := if togglesNoise c.rng then !c.nout else c.nout
      rng := lfsrNext q.lfsrForm c.rng } := if_pos h

theorem clocked_noise {c : SoundChip} (h : (c.stick + 1) % 16 % 8 = 0) (q : Params) :
    (c.clocked q).ncount = (c.tick.updateNoise q).ncount ∧ (c.clocked q).rng = (c.tick.updateNoise q).rng ∧
      (c.clocked q).nout = (c.tick.updateNoise q).nout := by
  rw [SoundChip.clocked_tone h, SoundChip.sampled_ncount, SoundChip.sampled_rng, SoundChip.sampled_nout]
  exact c.tick.toneUpdate_noise q

/-- Settles O35: the noise generator counts or steps, and its step is the LFSR's. -/
theorem toneUpdateStepsNoise : Obligations.ToneUpdateStepsNoise := by
  intro s h h8
  obtain ⟨t, l, e, hf, -, hpsg, -, -⟩ := clock_sound h
  obtain ⟨hcount, hrng, hout⟩ := clocked_noise h8 s.params
  rw [← hpsg] at hcount hrng hout
  refine ⟨t, e, hf, fun hn => ?_, fun hn => ?_⟩
  · rw [SoundChip.updateNoise_counts (c := s.psg.tick) hn] at hcount hrng hout
    exact ⟨hcount, hrng, hout⟩
  · rw [SoundChip.updateNoise_steps (c := s.psg.tick) hn] at hcount hrng hout
    refine ⟨hcount, hout.trans ?_, fun hk hr => ?_, fun c hc => ?_⟩
    · show (if togglesNoise s.psg.rng then !s.psg.nout else s.psg.nout) = _
      rw [togglesNoise_eq]
      cases s.psg.rng.getLsbD 1 != s.psg.rng.getLsbD 0 <;> simp
    · rw [hrng]
      exact lfsrNext_ne_zero hk hr
    · rw [hrng, hc]
      exact lfsrNext_galois_toNat c s.psg.rng

/-! Channels. -/

theorem Channel.advance_eq (c : Channel) : c.advance = { c with
    tcount := if c.period ≤ c.tcount + 1 then 0 else c.tcount + 1
    pol := polAfter c } := by
  unfold Channel.advance polAfter
  split <;> rfl

/-- A channel's update, its accumulator by the sign of the gate (R376, R377, R378). -/
theorem Channel.update_eq (c : Channel) (q : Params) (n : Bool) (e : BitVec 4) : c.update q n e = { c with
    tcount := if c.period ≤ c.tcount + 1 then 0 else c.tcount + 1
    pol := polAfter c
    acc := accAfter q n e c } := by
  have sign : gate (polAfter c) c.toneEn n c.noiseEn = true ↔
      (polAfter c = true ∨ c.toneEn = false) ∧ (n = true ∨ c.noiseEn = false) := by
    simp [gate]
  rw [Channel.update, Channel.advance_eq, Channel.mix, accAfter]
  simp only [sign]
  rfl

/-- A channel after the tick that makes a tone update: cleared where the update completes a sample (R376, R390). -/
def Channel.afterTone (c : Channel) (q : Params) (n : Bool) (e : BitVec 4) (due : Prop) [Decidable due] : Channel :=
  { c with
    tcount := if c.period ≤ c.tcount + 1 then 0 else c.tcount + 1
    pol := polAfter c
    acc := if due then 0 else accAfter q n e c }

theorem clocked_channels {c : SoundChip} (h : (c.stick + 1) % 16 % 8 = 0) (q : Params) :
    ∀ g ∈ [SoundChip.chA, SoundChip.chB, SoundChip.chC],
      g (c.clocked q) = (g c).afterTone q (c.clocked q).nout c.elevel (c.scount + 1 = q.sampleDecimation) := by
  obtain ⟨hA, hB, hC⟩ := c.tick.toneUpdate_channels q
  rw [Channel.update_eq] at hA hB hC
  have scount : (c.tick.toneUpdate q).scount = c.scount + 1 := SoundChip.toneUpdate_scount _ q
  rw [SoundChip.clocked_tone h, SoundChip.sampled_nout]
  simp only [List.forall_mem_cons, List.not_mem_nil, false_implies, implies_true, and_true]
  by_cases hd : c.scount + 1 = q.sampleDecimation
  · rw [SoundChip.sampled_due (scount.trans hd)]
    unfold Channel.afterTone
    simp only [if_pos hd, SoundChip.clearAcc, hA, hB, hC]
    exact ⟨rfl, rfl, rfl⟩
  · rw [SoundChip.sampled_not_due (scount.trans_ne hd)]
    unfold Channel.afterTone
    simp only [if_neg hd, hA, hB, hC]
    exact ⟨rfl, rfl, rfl⟩

/-- Settles O36: every channel is updated with the new noise output and the old envelope level. -/
theorem toneUpdateAdvancesChannels : Obligations.ToneUpdateAdvancesChannels := by
  intro s h h8
  obtain ⟨t, l, e, hf, -, hpsg, -, -⟩ := clock_sound h
  refine ⟨t, e, hf, fun g hg => ?_⟩
  rw [hpsg]
  exact clocked_channels h8 s.params g hg

/-! Envelope. -/

theorem SoundChip.updateEnvelope_steps {c : SoundChip} {q : Params} (h : c.eperiod ≤ c.ecount + 1) :
    c.updateEnvelope q = { c with
      ecount := 0
      pos := nextPos q c.shape c.hold c.pos
      elevel := envLevel q c.shape (nextPos q c.shape c.hold c.pos) } := if_pos h

theorem SoundChip.updateEnvelope_counts {c : SoundChip} {q : Params} (h : c.ecount + 1 < c.eperiod) :
    c.updateEnvelope q = { c with ecount := c.ecount + 1 } := if_neg (by omega)

/-- The envelope after the tick that makes a tone update. -/
theorem clocked_envelope {c : SoundChip} (h : (c.stick + 1) % 16 % 8 = 0) (q : Params) :
    ((c.stick + 1) % 16 = 0 → (c.clocked q).ecount = (c.tick.updateEnvelope q).ecount ∧
      (c.clocked q).pos = (c.tick.updateEnvelope q).pos ∧ (c.clocked q).elevel = (c.tick.updateEnvelope q).elevel) ∧
    ((c.stick + 1) % 16 ≠ 0 → (c.clocked q).ecount = c.ecount ∧ (c.clocked q).pos = c.pos ∧
      (c.clocked q).elevel = c.elevel) := by
  rw [SoundChip.clocked_tone h, SoundChip.sampled_ecount, SoundChip.sampled_pos, SoundChip.sampled_elevel]
  exact c.tick.toneUpdate_envelope q

theorem clocked_shape (c : SoundChip) (q : Params) : (c.clocked q).shape = c.shape ∧ (c.clocked q).hold = c.hold := by
  unfold SoundChip.clocked
  split
  · rw [SoundChip.sampled_shape, SoundChip.sampled_hold]
    exact ⟨(c.tick.toneUpdate_same q).shape, (c.tick.toneUpdate_same q).hold⟩
  · exact ⟨rfl, rfl⟩

/-- Settles O37: the envelope steps on every second tone update, at its period. -/
theorem envelopeAdvancesEverySixteenTicks : Obligations.EnvelopeAdvancesEverySixteenTicks := by
  intro s h h8 table pos'
  obtain ⟨t, l, e, hf, -, hpsg, -, -⟩ := clock_sound h
  obtain ⟨steps, keeps⟩ := clocked_envelope h8 s.params
  obtain ⟨hshape, hhold⟩ := clocked_shape s.psg s.params
  rw [← hpsg] at steps keeps hshape hhold
  refine ⟨t, e, hf, hshape, hhold, fun h16 hp => ?_, fun h16 hp => ?_, keeps⟩
  · obtain ⟨hcount, hpos, hlevel⟩ := steps h16
    rw [SoundChip.updateEnvelope_steps (c := s.psg.tick) hp] at hcount hpos hlevel
    refine ⟨hcount, hpos, fun level hl => hlevel.trans ?_⟩
    show (table[pos']?).getD 0 = level
    rw [hl]
    rfl
  · obtain ⟨hcount, hpos, hlevel⟩ := steps h16
    rw [SoundChip.updateEnvelope_counts (c := s.psg.tick) hp] at hcount hpos hlevel
    exact ⟨hcount, hpos, hlevel⟩

/-! Samples. -/

/-- The sample a CLOCK emits, from the accumulators after its tone update (R390). -/
theorem toneUpdate_sample (c : SoundChip) (q : Params) :
    (c.toneUpdate q).sample =
      ⟨Config.sampleConvert (accAfter q (c.toneUpdate q).nout c.elevel c.chC + accAfter q (c.toneUpdate q).nout c.elevel c.chB),
       Config.sampleConvert (accAfter q (c.toneUpdate q).nout c.elevel c.chA + accAfter q (c.toneUpdate q).nout c.elevel c.chB)⟩ := by
  obtain ⟨hA, hB, hC⟩ := c.toneUpdate_channels q
  rw [Channel.update_eq] at hA hB hC
  simp only [SoundChip.sample, SoundChip.left, SoundChip.right, hA, hB, hC]

/-- Settles O38: the one sample of the tick that completes SAMPLE_DECIMATION. -/
theorem sampleIsLeftCBRightAB : Obligations.SampleIsLeftCBRightAB := by
  intro s h
  obtain ⟨t, l, e, hf, -, hpsg, htrace, hl⟩ := clock_sound h
  refine ⟨t, l, e, hf, hl, ?_⟩
  intro acc left right
  have same := s.psg.tick.toneUpdate_same s.params
  have scount : (s.psg.tick.toneUpdate s.params).scount = s.psg.scount + 1 := SoundChip.toneUpdate_scount _ _
  refine ⟨fun ⟨h8, hd⟩ => ?_, fun hn => ?_⟩
  · have nout : t.psg.nout = (s.psg.tick.toneUpdate s.params).nout := by
      rw [hpsg, SoundChip.clocked_tone h8, SoundChip.sampled_nout]
    have sample : (s.psg.tick.toneUpdate s.params).sample = ⟨left, right⟩ := by
      rw [toneUpdate_sample, ← nout]
      rfl
    refine ⟨?_, ?_⟩
    · rw [hpsg, SoundChip.clocked_tone h8, SoundChip.sampled_obuf, if_pos (scount.trans hd), same.obuf, sample]
      rfl
    · rw [htrace, SoundChip.clockSamples, if_pos ⟨h8, hd⟩, sample]
      rfl
  · refine ⟨?_, ?_⟩
    · rw [hpsg]
      by_cases h8 : (s.psg.stick + 1) % 16 % 8 = 0
      · rw [SoundChip.clocked_tone h8, SoundChip.sampled_obuf, scount, if_neg (fun hd => hn ⟨h8, hd⟩), same.obuf]
        rfl
      · rw [SoundChip.clocked_between h8]
        rfl
    · rw [htrace, SoundChip.clockSamples, if_neg hn]
      simp [sampleEvents]

end Sys2Proof.Machine
end

section
/-! Proofs of family other: writes to the SoundChip's registers (44_soundchip_registers.md) and the two periodic
generators on their own (45_soundchip_generators.md R380, R388). -/

namespace Sys2Proof.Machine

/-! The register file after a store, and the derived fields as the statements write them. -/

/-- The register file with one byte stored, before the recompute (R336). -/
def SoundChip.store (c : SoundChip) (i : Fin 16) (v : Byte) : SoundChip := { c with regs := c.regs.set i v }

theorem SoundChip.writeReg_eq (c : SoundChip) (q : Params) (i : Fin 16) (v : Byte) :
    c.writeReg q i v = (c.store i (v &&& q.psgMask[i])).recompute q i := rfl

theorem SoundChip.store_reg (c : SoundChip) (i j : Fin 16) (v : Byte) :
    (c.store i v).reg j = if i = j then v else c.reg j := by
  simp only [SoundChip.store, SoundChip.reg, Fin.getElem_fin, Vector.getElem_set, Fin.ext_iff]

theorem lowNibble_eq_ofNat (d : Byte) : lowNibble d = BitVec.ofNat 4 (d.toNat % 16) :=
  BitVec.eq_of_toNat_eq (by rw [lowNibble_toNat, BitVec.toNat_ofNat, Nat.mod_eq_of_lt (Nat.mod_lt _ (by decide))])

theorem and_lowFive_toNat (d : Byte) : (d &&& 0x1F).toNat = d.toNat % 32 := by
  rw [BitVec.toNat_and]
  exact Nat.and_two_pow_sub_one_eq_mod d.toNat 5

section Writes

variable {s : State} (hf : s.faultMark = none)
include hf

theorem exec_psgHostWrite_selected {i : Fin 16} (h : s.psg.psgSel = i) (v : Byte) :
    exec (.psgHostWrite v) s = .next { s with psg := (s.psg.store i (v &&& s.params.psgMask[i])).recompute s.params i } := by
  subst h
  exact exec_psgHostWrite hf v

end Writes

/-- Settles O23: `psgSelect` below and above 16. -/
theorem psgHostSelectTakesIndexOrFaults : Obligations.PsgHostSelectTakesIndexOrFaults := by
  intro r s hf
  refine ⟨fun h => ?_, fun h => ?_⟩ <;> rw [exec_psgHostSelect hf]
  · rw [psgSelect_lt h]
    rfl
  · rw [psgSelect_ge h]
    rfl

/-- Settles O24: the store and `recomputeTone` of the register's channel. -/
theorem psgToneWritesRecomputePeriod : Obligations.PsgToneWritesRecomputePeriod := by
  intro v s hf per
  have period (lo hi : Byte) : max1 (registerPair lo hi) = per lo hi := max1_eq_max _
  refine ⟨fun h => ?_, fun h => ?_, fun h => ?_, fun h => ?_, fun h => ?_, fun h => ?_⟩ <;>
    rw [exec_psgHostWrite_selected hf h] <;>
    simp only [SoundChip.recompute, SoundChip.toneA, SoundChip.toneB, SoundChip.toneC, SoundChip.store_reg, period] <;>
    rfl

/-- Settles O25: the store and the recompute of the register. -/
theorem psgNoiseEnvelopeAndPortWrites : Obligations.PsgNoiseEnvelopeAndPortWrites := by
  intro v s hf
  refine ⟨fun h => ?_, fun h => ?_, fun h => ?_, fun h => ?_, fun h => ?_⟩ <;> rw [exec_psgHostWrite_selected hf h]
  case refine_1 =>
    simp only [SoundChip.recompute, SoundChip.noise, SoundChip.store_reg, max1_eq_max, and_lowFive_toNat]
    rfl
  case refine_2 | refine_3 =>
    simp only [SoundChip.recompute, SoundChip.envPeriod, SoundChip.store_reg, max1_eq_max]
    rfl
  case refine_4 | refine_5 => rfl

/-- Settles O26: the store and the recompute of the register. -/
theorem psgMixerAndVolumeWrites : Obligations.PsgMixerAndVolumeWrites := by
  intro v s hf
  refine ⟨fun h => ?_, fun h => ?_, fun h => ?_, fun h => ?_⟩ <;> intro m <;> rw [exec_psgHostWrite_selected hf h]
  case refine_1 =>
    simp only [SoundChip.recompute, SoundChip.mixer, SoundChip.store_reg]
    rfl
  case refine_2 | refine_3 | refine_4 =>
    simp only [SoundChip.recompute, Channel.voiced, SoundChip.store_reg, lowNibble_eq_ofNat]
    rfl

/-! The shape register. -/

theorem holdOf_eq (b : BitVec 4) : holdOf b = decide (b.toNat < 8 ∨ b.toNat % 2 = 1) := (Bool.decide_or ..).symm

/-- The chip after a shape write: the envelope restarts at the shape's position 0 (R342). -/
theorem SoundChip.writeReg_shape (c : SoundChip) (q : Params) (v : Byte) :
    c.writeReg q 13 v = { c with
      regs := c.regs.set 13 (v &&& q.psgMask[13])
      shape := lowNibble (v &&& q.psgMask[13]), pos := 0, ecount := 0
      elevel := envLevel q (lowNibble (v &&& q.psgMask[13])) 0
      hold := holdOf (lowNibble (v &&& q.psgMask[13])) } := by
  rw [SoundChip.writeReg_eq]
  simp only [SoundChip.recompute, SoundChip.restart, SoundChip.store_reg]
  rfl

theorem lowNibble_of_toNat_eq {d : Byte} {n : Fin 16} (h : d.toNat = n.val) : lowNibble d = BitVec.ofNat 4 n.val := by
  rw [lowNibble_eq_ofNat, h, Nat.mod_eq_of_lt n.isLt]

/-- The level at position 0 is the first entry of the shape's table (R342). -/
theorem envLevel_zero {q : Params} {shape : BitVec 4} {e : BitVec 4}
    (h : (q.envTable[shape.toNat]'shape.isLt).head? = some e) : envLevel q shape 0 = e := by
  rw [List.head?_eq_getElem?] at h
  exact congrArg (Option.getD · 0) h

/-- Settles O27: `writeShape` with the shape's number and its first level. -/
theorem psgShapeWriteRestartsEnvelope : Obligations.PsgShapeWriteRestartsEnvelope := by
  intro v s n e hf hsel hn he
  have shape : lowNibble (v &&& s.params.psgMask[13]) = BitVec.ofNat 4 n.val := lowNibble_of_toNat_eq hn
  have number : (BitVec.ofNat 4 n.val).toNat = n.val := by rw [BitVec.toNat_ofNat, Nat.mod_eq_of_lt n.isLt]
  have level : envLevel s.params (BitVec.ofNat 4 n.val) 0 = e := envLevel_zero (by simpa only [number, Fin.getElem_fin] using he)
  rw [exec_psgHostWrite hf, psgWriteSelected, hsel, SoundChip.writeReg_shape, shape, level, holdOf_eq, number]
  rfl

/-! Reading back. -/

/-- Under READ the bus gives back what was stored into the selected register (R345). -/
theorem psgBusRead_psgWriteSelected {s : State} (hfn : s.psg.psgFn = .read) (hsel : s.psg.psgSel ≠ 14) (v : Byte) :
    psgBusRead (psgWriteSelected s v) = (v &&& s.params.psgMask[s.psg.psgSel], psgWriteSelected s v) := by
  obtain ⟨hregs, hsel', hfn', -⟩ := s.psg.writeReg_regs s.params s.psg.psgSel v
  rw [psgBusRead, psgWriteSelected, State.setPsg_psg, if_pos (hfn'.trans hfn), hsel', if_neg hsel, SoundChip.reg, hregs]
  simp

/-- Settles O28: select, store, and the bus read of the register selected. -/
theorem psgWriteReadsBackMasked : Obligations.PsgWriteReadsBackMasked := by
  intro p i v s hf hi hdir hfn
  have number : (BitVec.ofNat 8 i.val).toNat = i.val := by
    rw [BitVec.toNat_ofNat, Nat.mod_eq_of_lt (by omega)]
  have select : exec (.psgHostSelect (BitVec.ofNat 8 i.val)) s = .next (s.setPsg { s.psg with psgSel := i }) := by
    rw [exec_psgHostSelect hf, psgSelect_lt (number.trans_lt i.isLt)]
    simp only [number]
    rfl
  let t : State := s.setPsg { s.psg with psgSel := i }
  have read : exec (.ppiARd p) (psgWriteSelected t v) =
      .next ((psgWriteSelected t v).give (.byte (v &&& s.params.psgMask[i]))) := by
    rw [exec_ppiARd (s := psgWriteSelected t v) hf, if_pos (show (psgWriteSelected t v).ppi.dirA = .IN from hdir),
      psgBusRead_psgWriteSelected (s := t) hfn hi]
    rfl
  exact ⟨t, psgWriteSelected t v, _, select, exec_psgHostWrite (s := t) hf v, read, hf, rfl⟩

/-! A tone of fixed period (R380). -/

/-- Counting one further: the counter wraps, and a period ends, exactly at a multiple of the period. -/
theorem succ_mod_and_div {p : Nat} (hp : 1 ≤ p) (k : Nat) :
    (p ≤ k % p + 1 → (k + 1) % p = 0 ∧ (k + 1) / p = k / p + 1) ∧
    (¬ p ≤ k % p + 1 → (k + 1) % p = k % p + 1 ∧ (k + 1) / p = k / p) := by
  have split : p * (k / p) + k % p = k := Nat.div_add_mod k p
  have lt : k % p < p := Nat.mod_lt k hp
  refine ⟨fun h => ?_, fun h => ?_⟩
  · have : k + 1 = p * (k / p + 1) := by
      rw [Nat.mul_add, Nat.mul_one]
      omega
    rw [this, Nat.mul_mod_right, Nat.mul_div_cancel_left _ hp]
    exact ⟨rfl, rfl⟩
  · have : k + 1 = k % p + 1 + p * (k / p) := by omega
    rw [this, Nat.add_mul_mod_self_left, Nat.mod_eq_of_lt (by omega), Nat.add_mul_div_left _ _ hp,
      Nat.div_eq_of_lt (by omega), Nat.zero_add]
    exact ⟨rfl, rfl⟩

theorem decide_odd_succ (n : Nat) : decide ((n + 1) % 2 = 1) = !decide (n % 2 = 1) := by
  rw [← decide_not, decide_eq_decide]
  omega

/-- Settles O59: by induction on the number of updates. -/
theorem tonePolarityFlipsEveryPeriod : Obligations.TonePolarityFlipsEveryPeriod := by
  intro c k hp hc
  induction k with
  | zero => cases c; simp_all
  | succ k ih =>
    obtain ⟨wraps, counts⟩ := succ_mod_and_div hp k
    rw [Function.iterate_succ_apply', ih, Channel.advance]
    dsimp only
    split
    · next h =>
      rw [(wraps h).1, (wraps h).2, decide_odd_succ, Bool.xor_not]
    · next h => rw [(counts h).1, (counts h).2]

/-! The envelope at period 1 (R388). -/

/-- At period 1 every step of the envelope moves the position and takes its level. -/
theorem envelope_iterate {c : SoundChip} (q : Params) (hp : c.eperiod = 1) (hl : c.elevel = envLevel q c.shape c.pos)
    (k : Nat) :
    let d := (fun x : SoundChip => x.updateEnvelope q)^[k] c
    d.eperiod = 1 ∧ d.shape = c.shape ∧ d.hold = c.hold ∧ d.pos = (nextPos q c.shape c.hold)^[k] c.pos ∧
      d.elevel = envLevel q c.shape d.pos := by
  induction k with
  | zero => exact ⟨hp, rfl, rfl, rfl, hl⟩
  | succ k ih =>
    obtain ⟨hperiod, hshape, hhold, hpos, -⟩ := ih
    rw [Function.iterate_succ_apply', Function.iterate_succ_apply', ← hpos]
    rw [SoundChip.updateEnvelope_steps (by omega)]
    exact ⟨hperiod, hshape, hhold, by rw [hshape, hhold], by rw [hshape]⟩

/-- With hold the position stops at the last one. -/
theorem nextPos_iterate_hold {q : Params} {shape : BitVec 4} (h : 0 < envLength q shape) (k : Nat) :
    (nextPos q shape true)^[k] 0 = min k (envLength q shape - 1) := by
  induction k with
  | zero => simp
  | succ k ih =>
    rw [Function.iterate_succ_apply', ih, nextPos]
    split
    · rw [if_pos rfl]
      omega
    · omega

/-- Without hold the position goes round. -/
theorem nextPos_iterate_repeat {q : Params} {shape : BitVec 4} (h : 0 < envLength q shape) (k : Nat) :
    (nextPos q shape false)^[k] 0 = k % envLength q shape := by
  induction k with
  | zero => simp
  | succ k ih =>
    obtain ⟨wraps, counts⟩ := succ_mod_and_div h k
    rw [Function.iterate_succ_apply', ih, nextPos]
    split
    · next h => rw [(wraps h).1, if_neg (by decide)]
    · next h => rw [(counts h).1]

/-- The table of a shape, looked up. -/
theorem envLevel_eq {q : Params} {shape : BitVec 4} {l : List (BitVec 4)}
    (h : q.envTable[shape.toNat]'shape.isLt = l) (pos : Nat) :
    envLevel q shape pos = (l[pos]?).getD 0 ∧ envLength q shape = l.length := by
  unfold envLevel envLength
  rw [h]
  exact ⟨rfl, rfl⟩

/-- The shapes 0 to 3 of an admitted table fall from 15 to 0 (R385). -/
theorem envTable_falls {q : Params} (hq : q.wf = true) {shape : BitVec 4} (h : shape.toNat ≤ 3) :
    q.envTable[shape.toNat]'shape.isLt = fallingLevels := by
  simp only [Params.wf, envTableWf, Bool.and_eq_true, beq_iff_eq] at hq
  obtain ⟨⟨⟨-, hq⟩, -⟩, -⟩ := hq
  obtain ⟨⟨⟨⟨⟨⟨⟨-, h0⟩, h1⟩, h2⟩, h3⟩, -⟩, -⟩, -⟩ := hq
  have lookup (n : Nat) (hn : n < 16) (h : n ≤ 3) : q.envTable[n] = fallingLevels := by
    interval_cases n
    exacts [h0, h1, h2, h3]
  exact lookup _ shape.isLt h

theorem fallingLevels_getD (k : Nat) : ((fallingLevels[min k 15]?).getD 0).toNat = 15 - k := by
  have table : ∀ n ≤ 15, ((fallingLevels[n]?).getD 0).toNat = 15 - n := by decide
  rw [table _ (Nat.min_le_right _ _)]
  omega

theorem risingFalling_getD : ∀ n < 32,
    (((risingLevels ++ fallingLevels)[n]?).getD 0).toNat = if n < 16 then n else 31 - n := by decide

/-- Settles O60: the level is the shape's at a position that holds or goes round. -/
theorem envelopeShapesFallHoldAndRepeat : Obligations.EnvelopeShapesFallHoldAndRepeat := by
  intro q c v k hq d e
  set x := v &&& q.psgMask[13] with hx
  have hd : d.eperiod = 1 ∧ d.shape = lowNibble x ∧ d.hold = holdOf (lowNibble x) ∧ d.pos = 0 ∧
      d.elevel = envLevel q (lowNibble x) 0 := by
    simp only [d, SoundChip.writeReg_shape, ← hx, and_self]
  obtain ⟨hperiod, hshape, hhold, hpos, hlevel⟩ := hd
  obtain ⟨-, -, -, hposk, hlevelk⟩ := envelope_iterate (c := d) q hperiod (by rw [hlevel, hshape, hpos]) k
  rw [hposk, hshape, hhold, hpos] at hlevelk
  have he : e = (envLevel q (lowNibble x) ((nextPos q (lowNibble x) (holdOf (lowNibble x)))^[k] 0)).toNat :=
    congrArg BitVec.toNat hlevelk
  refine ⟨fun hfall => ?_, fun h14 htable => ?_⟩
  · have number : (lowNibble x).toNat = x.toNat := by rw [lowNibble_toNat, Nat.mod_eq_of_lt (by omega)]
    have table := envTable_falls hq (shape := lowNibble x) (by omega)
    have length : envLength q (lowNibble x) = 16 := (envLevel_eq table 0).2
    have hold : holdOf (lowNibble x) = true := by
      rw [holdOf_eq, number]
      exact decide_eq_true (.inl (by omega))
    rw [he, hold, nextPos_iterate_hold (by omega), length, (envLevel_eq table _).1, fallingLevels_getD]
  · have shape : lowNibble x = 14 := lowNibble_of_toNat_eq (n := 14) h14
    have length : envLength q 14 = 32 := (envLevel_eq (shape := 14) htable 0).2
    have hold : holdOf 14 = false := by decide
    rw [he, shape, hold, nextPos_iterate_repeat (by omega), length, (envLevel_eq (shape := 14) htable _).1,
      risingFalling_getD _ (Nat.mod_lt _ (by decide))]

end Sys2Proof.Machine
end

section
/-! Proofs of family other: the SoundChip's derived state stays consistent (10_state.md R64 to R70). -/

namespace Sys2Proof.Machine

/-- What O52 says is kept of the SoundChip. -/
def SoundChip.consistent (c : SoundChip) (q : Params) : Prop := c.agrees ∧ c.envelopeAgrees q ∧ c.inRange q

/-! The tables of an admitted profile. -/

theorem envLength_pos {q : Params} (hq : q.wf = true) (shape : BitVec 4) : 0 < envLength q shape := by
  simp only [Params.wf, envTableWf, Bool.and_eq_true] at hq
  obtain ⟨⟨⟨-, hq⟩, -⟩, -⟩ := hq
  obtain ⟨⟨⟨⟨⟨⟨⟨hall, -⟩, -⟩, -⟩, -⟩, -⟩, -⟩, -⟩ := hq
  have h := List.all_eq_true.1 hall _ (Vector.mem_toList_iff.2 (Vector.getElem_mem shape.isLt))
  exact List.length_pos_of_ne_nil (by simpa using h)

theorem lfsrForm_keepsNonZero {q : Params} (hq : q.wf = true) : q.lfsrForm.keepsNonZero = true := by
  simp only [Params.wf, Bool.and_eq_true] at hq
  exact hq.1.2

theorem sampleDecimation_pos {q : Params} (hq : q.wf = true) : 0 < q.sampleDecimation := by
  simp only [Params.wf, Bool.and_eq_true, decide_eq_true_eq] at hq
  exact hq.2

/-! Register writes. -/

/-- A store leaves the derived fields to the recompute. -/
theorem SoundChip.store_derived (c : SoundChip) (i : Fin 16) (v : Byte) :
    (c.store i v).chA = c.chA ∧ (c.store i v).chB = c.chB ∧ (c.store i v).chC = c.chC ∧
    (c.store i v).ioADirOut = c.ioADirOut ∧ (c.store i v).ioBDirOut = c.ioBDirOut ∧
    (c.store i v).nperiod = c.nperiod ∧ (c.store i v).eperiod = c.eperiod ∧ (c.store i v).shape = c.shape ∧
    (c.store i v).hold = c.hold := ⟨rfl, rfl, rfl, rfl, rfl, rfl, rfl, rfl, rfl⟩

theorem SoundChip.agrees_writeReg {c : SoundChip} (h : c.agrees) (q : Params) (i : Fin 16) (v : Byte) :
    (c.writeReg q i v).agrees := by
  obtain ⟨hA, hB, hC, hioA, hioB, hn, he, hs, hh⟩ := h
  unfold Channel.agrees at hA hB hC
  obtain ⟨regs, -⟩ := c.writeReg_regs q i v
  have reg (j : Fin 16) : (c.writeReg q i v).reg j = (c.store i (v &&& q.psgMask[i])).reg j := by
    simp only [SoundChip.reg, regs, SoundChip.store]
  unfold SoundChip.agrees Channel.agrees
  simp only [reg]
  rw [SoundChip.writeReg_eq]
  have stored (j : Fin 16) := c.store_reg i j (v &&& q.psgMask[i])
  obtain ⟨dA, dB, dC, dioA, dioB, dn, de, ds, dh⟩ := c.store_derived i (v &&& q.psgMask[i])
  generalize c.store i (v &&& q.psgMask[i]) = d at *
  fin_cases i <;>
    simp [SoundChip.recompute, SoundChip.toneA, SoundChip.toneB, SoundChip.toneC, SoundChip.noise, SoundChip.mixer,
      SoundChip.envPeriod, SoundChip.restart, Channel.mixed, Channel.voiced, stored, dA, dB, dC, dioA, dioB, dn, de, ds,
      dh, hA, hB, hC, hioA, hioB, hn, he, hs, hh]

/-- A store into another register than the shape's leaves the envelope where it is. -/
theorem SoundChip.writeReg_envelope (c : SoundChip) (q : Params) {i : Fin 16} (h : i ≠ 13) (v : Byte) :
    (c.writeReg q i v).elevel = c.elevel ∧ (c.writeReg q i v).shape = c.shape ∧ (c.writeReg q i v).pos = c.pos := by
  unfold SoundChip.writeReg SoundChip.recompute
  fin_cases i
  pick_goal 14
  · exact absurd rfl h
  all_goals exact ⟨rfl, rfl, rfl⟩

theorem SoundChip.consistent_writeReg {c : SoundChip} {q : Params} (hq : q.wf = true) (h : c.consistent q) (i : Fin 16)
    (v : Byte) : (c.writeReg q i v).consistent q := by
  obtain ⟨hagrees, henv, hrange⟩ := h
  refine ⟨SoundChip.agrees_writeReg hagrees q i v, ?_, ?_⟩
  · by_cases h13 : i = 13
    · subst h13
      rw [SoundChip.writeReg_shape]
      exact ⟨rfl, envLength_pos hq _⟩
    · obtain ⟨helevel, hshape, hpos⟩ := c.writeReg_envelope q h13 v
      unfold SoundChip.envelopeAgrees
      rw [helevel, hshape, hpos]
      exact henv
  · obtain ⟨-, -, -, hobuf, hrng, hstick, hscount⟩ := c.writeReg_regs q i v
    unfold SoundChip.inRange
    rw [hobuf, hrng, hstick, hscount]
    exact hrange

theorem psgApply_consistent {s : State} (hq : s.params.wf = true) (h : s.psg.consistent s.params) (f : PsgFn) (d : Byte) :
    (psgApply s f d).state.psg.consistent s.params := by
  obtain e | ⟨-, e⟩ | ⟨_, -, e⟩ | ⟨-, -, e⟩ := psgApply_cases s f d <;> rw [e]
  · exact h
  · exact SoundChip.consistent_writeReg hq h _ _
  · exact h
  · exact h

theorem portCSideEffectsIfOut_consistent {s : State} (hq : s.params.wf = true) (h : s.psg.consistent s.params) :
    (portCSideEffectsIfOut s).state.psg.consistent s.params := by
  unfold portCSideEffectsIfOut
  split
  · exact psgApply_consistent (s := (((s.setPpi { s.ppi with kbdRow := kbdRowOfLatch s.ppi.latchC }).emit
      (.kbdRow (kbdRowOfLatch s.ppi.latchC))).setPsg { s.psg with psgFn := psgFnOfLatch s.params s.ppi.latchC })) hq h _ _
  · exact h

/-- A half of a port C write counts its draw and leaves the rest of the state (R294). -/
theorem writeHalf_eq (dir : Dir) (old new : BitVec 4) (s : State) :
    writeHalf dir old new s = (if dir = .OUT ∨ Config.drawTakesNew s.draws = true then new else old,
      { s with draws := s.draws + if dir = .OUT then 0 else 1 }) := by
  unfold writeHalf drawLatch
  by_cases h : dir = .OUT
  · simp [h]
  · simp [h, State.drawn]

/-! Reset and the clock. -/

theorem Channel.reset_agrees : ∀ k < 3, Channel.reset.agrees 0 0 0 0 k := by
  unfold Channel.agrees
  decide

theorem SoundChip.reset_agrees (e : BitVec 4) : (SoundChip.reset e).agrees := by
  have zero (i : Fin 16) : (SoundChip.reset e).reg i = 0 := by simp [SoundChip.reset, SoundChip.reg]
  unfold SoundChip.agrees
  simp only [zero]
  exact ⟨Channel.reset_agrees 0 (by decide), Channel.reset_agrees 1 (by decide), Channel.reset_agrees 2 (by decide),
    rfl, rfl, rfl, rfl, rfl, rfl⟩

theorem SoundChip.reset_consistent {q : Params} (hq : q.wf = true) :
    (SoundChip.reset (envLevel q 0 0)).consistent q := by
  exact ⟨SoundChip.reset_agrees _, ⟨rfl, envLength_pos hq _⟩, Nat.zero_lt_succ _, sampleDecimation_pos hq, Nat.zero_le _, by
    show (1 : BitVec 17) ≠ 0
    decide⟩

theorem nextPos_lt {q : Params} (hq : q.wf = true) (shape : BitVec 4) (hold : Bool) (pos : Nat) :
    nextPos q shape hold pos < envLength q shape := by
  have := envLength_pos hq shape
  unfold nextPos
  split_ifs <;> omega

/-- A channel keeps the fields its registers set (R376). -/
theorem Channel.agrees_afterTone {c : Channel} {lo hi vol mix : Byte} {k : Nat} (h : c.agrees lo hi vol mix k) (q : Params)
    (n : Bool) (e : BitVec 4) (due : Prop) [Decidable due] : (c.afterTone q n e due).agrees lo hi vol mix k := h

theorem SoundChip.clocked_agrees {c : SoundChip} (h : c.agrees) (q : Params) : (c.clocked q).agrees := by
  by_cases h8 : (c.stick + 1) % 16 % 8 = 0
  · obtain ⟨hregs, -, -, hn, he, hioA, hioB⟩ := c.clocked_keeps q
    obtain ⟨hshape, hhold⟩ := clocked_shape c q
    have channels := clocked_channels h8 q
    simp only [List.forall_mem_cons, List.not_mem_nil, false_implies, implies_true, and_true] at channels
    obtain ⟨hA, hB, hC⟩ := channels
    obtain ⟨aA, aB, aC, rest⟩ := h
    unfold SoundChip.agrees SoundChip.reg at *
    rw [hregs, hA, hB, hC, hn, he, hioA, hioB, hshape, hhold]
    exact ⟨Channel.agrees_afterTone aA .., Channel.agrees_afterTone aB .., Channel.agrees_afterTone aC .., rest⟩
  · rw [SoundChip.clocked_between h8]
    exact h

theorem SoundChip.clocked_envelopeAgrees {c : SoundChip} {q : Params} (hq : q.wf = true) (h : c.envelopeAgrees q) :
    (c.clocked q).envelopeAgrees q := by
  by_cases h8 : (c.stick + 1) % 16 % 8 = 0
  · obtain ⟨steps, keeps⟩ := clocked_envelope h8 q
    obtain ⟨hshape, -⟩ := clocked_shape c q
    unfold SoundChip.envelopeAgrees
    rw [hshape]
    by_cases h16 : (c.stick + 1) % 16 = 0
    · obtain ⟨-, hpos, hlevel⟩ := steps h16
      rw [hpos, hlevel]
      by_cases hp : c.eperiod ≤ c.ecount + 1
      · rw [SoundChip.updateEnvelope_steps (c := c.tick) hp]
        exact ⟨rfl, nextPos_lt hq _ _ _⟩
      · rw [SoundChip.updateEnvelope_counts (c := c.tick) (Nat.lt_of_not_le hp)]
        exact h
    · obtain ⟨-, hpos, hlevel⟩ := keeps h16
      rw [hpos, hlevel]
      exact h
  · rw [SoundChip.clocked_between h8]
    exact h

theorem SoundChip.clocked_inRange {c : SoundChip} {q : Params} (hq : q.wf = true)
    (room : (c.stick + 1) % 16 % 8 = 0 ∧ c.scount + 1 = q.sampleDecimation → c.obuf.length < q.bufferCapacity)
    (h : c.inRange q) : (c.clocked q).inRange q := by
  obtain ⟨hstick, hscount, hobuf, hrng⟩ := h
  have stick : (c.clocked q).stick < 16 := c.clocked_stick q ▸ Nat.mod_lt _ (by decide)
  by_cases h8 : (c.stick + 1) % 16 % 8 = 0
  · have count : (c.tick.toneUpdate q).scount = c.scount + 1 := c.tick.toneUpdate_scount q
    obtain ⟨-, rng, -⟩ := clocked_noise h8 q
    refine ⟨stick, ?_, ?_, ?_⟩
    · rw [SoundChip.clocked_tone h8, SoundChip.sampled_scount, count]
      split
      · exact sampleDecimation_pos hq
      · omega
    · rw [SoundChip.clocked_tone h8, SoundChip.sampled_obuf, count, (c.tick.toneUpdate_same q).obuf]
      split
      · next hd =>
        rw [List.length_append]
        exact room ⟨h8, hd⟩
      · exact hobuf
    · rw [rng]
      by_cases hn : c.nperiod ≤ c.ncount + 1
      · rw [SoundChip.updateNoise_steps (c := c.tick) hn]
        exact lfsrNext_ne_zero (lfsrForm_keepsNonZero hq) hrng
      · rw [SoundChip.updateNoise_counts (c := c.tick) (Nat.lt_of_not_le hn)]
        exact hrng
  · rw [SoundChip.clocked_between h8] at stick ⊢
    exact ⟨stick, hscount, hobuf, hrng⟩

/-! Every step. -/

/-- `t` keeps the parameters of `s` and, where no fault is marked, a consistent SoundChip. -/
def KeepsSound (s t : State) : Prop :=
  t.params = s.params ∧
    (s.params.wf = true → s.psg.consistent s.params → t.faultMark = none → t.psg.consistent s.params)

theorem KeepsSound.of_psg {s t : State} (hp : t.params = s.params) (h : t.psg = s.psg) : KeepsSound s t :=
  ⟨hp, fun _ hc _ => h ▸ hc⟩

theorem exec_params {i : Instr} {s t : State} (h : exec i s = .next t) : t.params = s.params := by
  obtain k | ⟨r, rfl⟩ := exec_frame h
  · exact k.params
  · rfl

theorem exec_keepsSound {i : Instr} {s t : State} (h : exec i s = .next t) : KeepsSound s t := by
  have params : t.params = s.params := exec_params h
  cases hf : s.faultMark with
  | some f =>
    rw [exec_stuck hf] at h
    cases h
    exact .of_psg rfl rfl
  | none =>
    cases i
    case ppiAWr p d =>
      rw [exec_ppiAWr hf] at h
      cases h
      refine ⟨params, fun hq hc _ => ?_⟩
      split
      · exact psgApply_consistent (s := s.setPpi { s.ppi with latchA := d }) hq hc _ _
      · exact hc
    case ppiCWr p d =>
      rw [exec_ppiCWr hf, writeHalf_eq, writeHalf_eq] at h
      cases h
      exact ⟨params, fun hq hc _ => portCSideEffectsIfOut_consistent (s := { s with ppi := _, draws := _ }) hq hc⟩
    case ppiCtrlBsr p d =>
      rw [exec_ppiCtrlBsr hf] at h
      cases h
      exact ⟨params, fun hq hc _ => portCSideEffectsIfOut_consistent (s := s.setPpi _) hq hc⟩
    case psgHostSelect r =>
      rw [exec_psgHostSelect hf] at h
      cases h
      exact ⟨params, fun hq hc _ => psgApply_consistent hq hc .select r⟩
    case psgHostWrite v =>
      rw [exec_psgHostWrite hf] at h
      cases h
      exact ⟨params, fun hq hc _ => psgApply_consistent hq hc .write v⟩
    case clock =>
      refine ⟨params, fun hq ⟨hagrees, henv, hrange⟩ ht => ?_⟩
      have runs := clockRuns_of_faultFree h ht
      obtain ⟨u, l, e, -, -, hpsg, -, -⟩ := clock_sound runs
      rw [h] at e
      cases e
      rw [hpsg]
      exact ⟨SoundChip.clocked_agrees hagrees _, SoundChip.clocked_envelopeAgrees hq henv,
        SoundChip.clocked_inRange hq runs.2.2 hrange⟩
    case reset =>
      rw [exec_reset hf] at h
      cases h
      refine ⟨params, fun hq _ _ => ?_⟩
      rw [resetAll_psg]
      exact SoundChip.reset_consistent hq
    case audioFlush =>
      rw [exec_audioFlush hf] at h
      cases h
      refine ⟨params, fun hq ⟨hagrees, henv, hstick, hscount, hobuf, hrng⟩ _ => ?_⟩
      split
      · exact ⟨hagrees, henv, hstick, hscount, Nat.zero_le _, hrng⟩
      · exact ⟨hagrees, henv, hstick, hscount, hobuf, hrng⟩
    all_goals
      have sound := Part.sound_eq_of_kept (exec_kept h (p := .sound) (by simp [writtenBy]))
      have buffer : t.psg.obuf = s.psg.obuf := exec_kept h (p := .buffer) (by simp [writtenBy])
      rw [buffer] at sound
      exact .of_psg params sound

/-- Settles O52: the writers of the SoundChip keep it consistent, the other inputs keep it. -/
theorem stepKeepsSoundChipConsistent : Obligations.StepKeepsSoundChipConsistent := by
  intro s t hq hagrees henv hrange h ht
  have keeps : KeepsSound s t := by
    refine step_relates (fun s => .of_psg rfl rfl) (fun s rest t k => k) (fun i s t h => exec_keepsSound h)
      (fun s t h => ?_) (fun c s t h => ?_) h
    · obtain e | ⟨-, e⟩ := execIllegal_cases s <;> rw [e] at h <;> cases h <;> exact .of_psg rfl rfl
    · obtain ⟨m, e, -⟩ | ⟨-, f, e⟩ := runHostCall_cases c s <;> rw [e] at h <;> cases h <;> exact .of_psg rfl rfl
  obtain ⟨params, consistent⟩ := keeps
  rw [params]
  exact consistent hq ⟨hagrees, henv, hrange⟩ ht

end Sys2Proof.Machine
end

section
/-! Proofs of family other: the palette chip, the SyncTimer's registers, acknowledge and the host's restores
(40_io_dispatch.md, 41_synctimer.md 1, 42_palette_interrupt.md 1, 46_host_ops.md). -/

namespace Sys2Proof.Machine

/-! Data-byte fields as the statements write them. -/

theorem penOf_eq (d : Byte) : penOf d = if d.getLsbD 4 then 16 else Fin.ofNat 17 (d.toNat % 16) := by
  have ink : d.toNat % 16 = (Fin.ofNat 17 (d.toNat % 16)).val := by
    show _ = d.toNat % 16 % 17
    omega
  refine Fin.ext ?_
  rw [penOf_val, apply_ite Fin.val, ← ink]
  rfl

theorem colourOf_eq (d : Byte) : colourOf d = BitVec.ofNat 5 (d.toNat % 32) :=
  BitVec.eq_of_toNat_eq (by rw [colourOf_toNat, BitVec.toNat_ofNat, Nat.mod_eq_of_lt (Nat.mod_lt _ (by decide))])

theorem screenModeOf_eq (d : Byte) : screenModeOf d = BitVec.ofNat 2 (d.toNat % 4) :=
  BitVec.eq_of_toNat_eq (by rw [screenModeOf_toNat, BitVec.toNat_ofNat, Nat.mod_eq_of_lt (Nat.mod_lt _ (by decide))])

theorem bankIndexOf_eq (d : Byte) : (⟨bankIndexOf d, bankIndexOf_lt d⟩ : Fin 8) = Fin.ofNat 8 (d.toNat % 8) := by
  refine Fin.ext ?_
  show bankIndexOf d = d.toNat % 8 % 8
  rw [bankIndexOf_toNat]
  omega

theorem width16_lowNibble (d : Byte) : width16 (lowNibble d) = if d.toNat % 16 = 0 then 16 else d.toNat % 16 := by
  rw [width16_toNat, lowNibble_toNat]

theorem width16_highNibble (d : Byte) : width16 (highNibble d) = if d.toNat / 16 = 0 then 16 else d.toNat / 16 := by
  rw [width16_toNat, highNibble_toNat]

/-! Palette chip and the ports beside it. -/

/-- Settles O1. -/
theorem palPenSelectsBorderOrInkPen : Obligations.PalPenSelectsBorderOrInkPen := by
  intro p d s hf
  rw [exec_palPen hf, penOf_eq]
  rfl

/-- Settles O2: the pen is read first (R490). -/
theorem palColourStoresLowFiveBits : Obligations.PalColourStoresLowFiveBits := by
  intro p d s hf
  refine ⟨fun h => ?_, fun h => ?_⟩ <;> rw [exec_palColour hf]
  · rw [reading_written h, colourOf_eq]
    rfl
  · rw [reading_unwritten h]
    rfl

/-- Settles O3: by the delay bit. -/
theorem palModeRomSetsModeEnablesAndDelay : Obligations.PalModeRomSetsModeEnablesAndDelay := by
  intro p d s hf
  refine ⟨fun h => ?_, fun h => ?_⟩ <;> rw [exec_palModeRom hf, delaysInterrupts, h, screenModeOf_eq] <;> rfl

/-- Settles O4. -/
theorem bankAndRomSelectWritesTakeIndex : Obligations.BankAndRomSelectWritesTakeIndex := by
  intro p d s hf
  have bank := exec_bank hf p d
  rw [bankIndexOf_eq] at bank
  exact ⟨bank _ (by simp), bank _ (by simp), exec_romselWr hf p d⟩

/-- Settles O6. -/
theorem unhandledPortsReadFreeAndIgnoreWrites : Obligations.UnhandledPortsReadFreeAndIgnoreWrites := by
  intro p d s hf
  have unheard := exec_unheardWrite hf p d
  exact ⟨unheard _ (by simp), unheard _ (by simp), exec_unknownRd hf p, exec_undefinedRead hf p⟩

/-! SyncTimer registers. -/

/-- Settles O7: by whether the byte is an index. -/
theorem crtcSelectTakesIndexOrFaults : Obligations.CrtcSelectTakesIndexOrFaults := by
  intro p d s hf
  refine ⟨fun h => ?_, fun h => ?_⟩ <;> rw [exec_crtcSelect hf]
  · rw [dif_pos h]
    rfl
  · rw [dif_neg (Nat.not_lt.2 h)]
    rfl

/-- The whole state after a store into a SyncTimer register: the widths follow a store into SW (R203, R206). -/
theorem writeCrtc_eq (s : State) (i : Fin 18) (d : Byte) :
    let v := d &&& s.params.crtcMask[i]
    writeCrtc s i d = { s with
      sync := { s.sync with
        regs := s.sync.regs.set i v
        hw := if i = s.params.crtcIndex.sw then width16 (lowNibble v) else s.sync.hw
        vw := if i = s.params.crtcIndex.sw then width16 (highNibble v) else s.sync.vw }
      unwritten := s.unwritten.filter (fun c => c != .crtcReg i) } := by
  intro v
  unfold writeCrtc
  dsimp only
  by_cases h : i = s.params.crtcIndex.sw
  · rw [if_pos h, if_pos h, if_pos h]
    simp [SyncTimer.withWidths, State.setSync, State.markWritten, v]
  · rw [if_neg h, if_neg h, if_neg h]
    rfl

/-- Settles O8: the selection is read first, then the store. -/
theorem crtcWriteMasksAndRecomputesWidths : Obligations.CrtcWriteMasksAndRecomputesWidths := by
  intro p d s hf v
  refine ⟨fun h => ?_, fun h => ?_⟩ <;> rw [exec_crtcWrite hf]
  · rw [reading_written h, writeCrtc_eq, width16_lowNibble, width16_highNibble]
    rfl
  · rw [reading_unwritten h]
    rfl

/-- Settles O9. -/
theorem crtcUndefinedWritesAreRefused : Obligations.CrtcUndefinedWritesAreRefused := by
  intro p d s hf
  have refused := exec_crtcUndefined hf p d
  exact ⟨refused _ (by simp), refused _ (by simp)⟩

/-- Settles O10: the selection is read first, then, from FIRST_RW_REG on, the register. -/
theorem crtcReadGivesZeroBelowFirstRw : Obligations.CrtcReadGivesZeroBelowFirstRw := by
  intro p s hf
  refine ⟨fun h hr => ?_, fun h hr hv => ?_, fun h hr hv => ?_, fun h => ?_⟩ <;> rw [exec_crtcRead hf]
  · rw [reading_written h, if_pos hr]
    rfl
  · rw [reading_written h, if_neg (Nat.not_lt.2 hr), reading_written hv]
    rfl
  · rw [reading_written h, if_neg (Nat.not_lt.2 hr), reading_unwritten hv]
    rfl
  · rw [reading_unwritten h]
    rfl

theorem isUnwritten_crtcSel_writeCrtc (s : State) (i : Fin 18) (v : Byte) :
    isUnwritten (writeCrtc s i v) .crtcSel = isUnwritten s .crtcSel := by
  unfold writeCrtc
  rw [isUnwritten_markWritten _ _ _ (by simp) (by simp)]
  simp

theorem isUnwritten_crtcReg_writeCrtc (s : State) (i : Fin 18) (v : Byte) :
    isUnwritten (writeCrtc s i v) (.crtcReg i) = false := by
  unfold writeCrtc
  rw [isUnwritten_markWritten _ _ _ (by simp) (by simp)]
  simp

/-- Settles O11: the select marks the selection written, the store marks its register. -/
theorem crtcSelectWriteReadBack : Obligations.CrtcSelectWriteReadBack := by
  intro p1 p2 p3 i v s hf
  have number : (BitVec.ofNat 8 i.val).toNat = i.val := by
    rw [BitVec.toNat_ofNat, Nat.mod_eq_of_lt (by omega)]
  let t : State := (s.setSync { s.sync with crtcSel := i }).markWritten .crtcSel
  have select : exec (.crtcSelect p1 (BitVec.ofNat 8 i.val)) s = .next t := by
    rw [exec_crtcSelect hf, dif_pos (number.trans_lt i.isLt)]
    simp only [number]
    rfl
  have tsel : isUnwritten t .crtcSel = false := by
    rw [isUnwritten_markWritten _ _ _ (by simp) (by simp)]
    simp
  let u : State := writeCrtc t i v
  have write : exec (.crtcWrite p2 v) t = .next u := by
    rw [exec_crtcWrite (s := t) hf, reading_written tsel]
    rfl
  have uf : u.faultMark = none := hf
  have usel : isUnwritten u .crtcSel = false := (isUnwritten_crtcSel_writeCrtc t i v).trans tsel
  have ureg : isUnwritten u (.crtcReg i) = false := isUnwritten_crtcReg_writeCrtc t i v
  have sel : u.sync.crtcSel = i := by simp only [u, writeCrtc_eq]; rfl
  have stored : u.crtc i = v &&& s.params.crtcMask[i] := by
    simp only [u, writeCrtc_eq, State.crtc, Fin.getElem_fin, Vector.getElem_set_self]
    rfl
  have params : u.params = s.params := rfl
  refine ⟨t, u, u.give (.byte (if i.val < s.params.firstRwReg then 0 else v &&& s.params.crtcMask[i])), select, write, ?_,
    uf, rfl⟩
  rw [exec_crtcRead uf, reading_written usel, sel, params]
  split
  · rfl
  · rw [reading_written ureg, sel, stored]
    rfl

/-! Acknowledge, queries, restores and the flush. -/

/-- Settles O39. -/
theorem acknowledgeIrqLineAndVsyncQuery : Obligations.AcknowledgeIrqLineAndVsyncQuery := by
  intro s hf
  refine ⟨?_, exec_setIrqLine hf true, exec_setIrqLine hf false, exec_queryVsync hf⟩
  rw [exec_intack hf, palOnAck, clearBit5_eq]
  rfl

/-- The flow restores `t` where the components `bounds` of `s` hold a value and `ok` is met; otherwise it raises, from
`s`, CONTRACT or the UNWRITTEN of one of them (R412, R490). -/
def Flow.restores (f : Flow) (s t : State) (bounds : List Component) (ok : Prop) : Prop :=
  ((∀ c ∈ bounds, s.holds c) ∧ ok ∧ f = .running t) ∨
  ∃ m, f = .ended (s.raiseFault m) ∧
    ((m = .contract .setTimingBounds ∧ ¬ ok) ∨ ∃ c ∈ bounds, ¬ s.holds c ∧ m = .unwritten c)

theorem within_restores {s t : State} {k : State → Flow} {bounds : List Component} {ok : Prop} (c : Component)
    (test : State → Bool) (h : (k s).restores s t bounds ok) :
    (within c test s k).restores s t (c :: bounds) (test s = true ∧ ok) := by
  obtain ⟨hc, e⟩ | ⟨hc, ht, e⟩ | ⟨hc, ht, e⟩ := within_cases c test s k
  · exact .inr ⟨_, e, .inr ⟨c, by simp, by simp [hc], rfl⟩⟩
  · obtain ⟨hb, ho, hk⟩ | ⟨m, hk, ⟨hm, ho⟩ | ⟨x, hx, hm⟩⟩ := h
    · exact .inl ⟨List.forall_mem_cons.2 ⟨hc, hb⟩, ⟨ht, ho⟩, e.trans hk⟩
    · exact .inr ⟨m, e.trans hk, .inl ⟨hm, fun h => ho h.2⟩⟩
    · exact .inr ⟨m, e.trans hk, .inr ⟨x, List.mem_cons_of_mem c hx, hm⟩⟩
  · exact .inr ⟨_, e, .inl ⟨rfl, fun h => by simp [h.1] at ht⟩⟩

theorem ite_restores (s t : State) (ok : Prop) [Decidable ok] :
    (if ok then Flow.running t else raiseAndEnd s (.contract .setTimingBounds)).restores s t [] ok := by
  split
  · next h => exact .inl ⟨by simp, h, rfl⟩
  · next h => exact .inr ⟨_, rfl, .inl ⟨rfl, h⟩⟩

/-- The components that bound a SET_TIMING (R412). -/
def timingBounds (s : State) : List Component :=
  [.crtcReg s.params.crtcIndex.ht, .crtcReg s.params.crtcIndex.mra, .crtcReg s.params.crtcIndex.vt, .hw, .vw]

/-- A SET_TIMING record lies within its bounds (R412). -/
def timingOk (r : TimingRecord) (s : State) : Prop :=
  r.col ≤ s.ht ∧ r.line ≤ s.mra ∧ r.row ≤ s.vt ∧ r.hcount ≤ s.sync.hw ∧ r.vcount ≤ s.sync.vw ∧
    (r.inH = true ↔ 0 < r.hcount) ∧ (r.inV = true ↔ 0 < r.vcount)

/-- The position that a SET_TIMING writes. -/
def State.timed (s : State) (r : TimingRecord) : State :=
  s.setSync { s.sync with
    col := r.col, line := r.line, row := r.row, hcount := r.hcount, vcount := r.vcount, inH := r.inH, inV := r.inV }

/-- Everything a SET_TIMING can do. -/
theorem exec_setTiming_restores {s : State} (hf : s.faultMark = none) (r : TimingRecord) :
    ∃ f : Flow, exec (.setTiming r) s = .next f.state ∧ f.restores s (s.timed r) (timingBounds s) (timingOk r s) := by
  have flags (b : Bool) (n : Nat) : b = decide (0 < n) ↔ (b = true ↔ 0 < n) := by cases b <;> simp
  have ok : timingOk r s ↔ decide (r.col ≤ s.ht) = true ∧ decide (r.line ≤ s.mra) = true ∧ decide (r.row ≤ s.vt) = true ∧
      decide (r.hcount ≤ s.sync.hw) = true ∧ decide (r.vcount ≤ s.sync.vw) = true ∧
      r.inH = decide (0 < r.hcount) ∧ r.inV = decide (0 < r.vcount) := by
    simp only [timingOk, decide_eq_true_eq, flags]
  rw [propext ok]
  exact ⟨_, exec_setTiming hf r, within_restores _ _ (within_restores _ _ (within_restores _ _
    (within_restores _ _ (within_restores _ _ (ite_restores s (s.timed r) _)))))⟩

theorem irqCountersOk_iff (r : IrqRecord) :
    irqCountersOk r = true ↔ r.vdelay ≤ 2 ∧ r.icount ≤ 255 ∧ (0 < r.vdelay ∨ r.icount ≤ 51) := by
  simp [irqCountersOk, and_assoc]

/-- Settles O42: what SET_TIMING can do, by its bounds; RESTORE_IRQ_COUNTERS tests its own. -/
theorem restoresAcceptBoundsOrFault : Obligations.RestoresAcceptBoundsOrFault := by
  intro s hf bounds
  constructor <;> intro r ok
  · obtain ⟨f, run, restores⟩ := exec_setTiming_restores hf r
    rw [run]
    obtain ⟨hb, ho, rfl⟩ | ⟨m, rfl, hm⟩ := restores
    · exact ⟨fun _ _ => rfl, fun _ hn => absurd ho hn, fun hn => absurd hb hn⟩
    · refine ⟨fun hb ho => ?_, fun hb hn => ?_, fun _ => ⟨m, rfl, hm⟩⟩ <;> obtain ⟨rfl, ho'⟩ | ⟨c, hc, hc', -⟩ := hm
      · exact absurd ho ho'
      · exact absurd (hb c hc) hc'
      · rfl
      · exact absurd (hb c hc) hc'
  · rw [exec_restoreIrqCounters hf]
    refine ⟨fun h => ?_, fun h => ?_⟩
    · rw [if_pos ((irqCountersOk_iff r).2 h)]
      rfl
    · rw [if_neg (mt (irqCountersOk_iff r).1 h)]
      rfl

/-- Settles O43: by the sink's answer. -/
theorem audioFlushEmptiesOnAcceptance : Obligations.AudioFlushEmptiesOnAcceptance := by
  intro s hf
  refine ⟨fun h => ?_, fun h => ?_⟩ <;> rw [exec_audioFlush hf, h] <;> rfl

end Sys2Proof.Machine
end

section
/-! Proofs of family other: what every step keeps of the SyncTimer, of the interrupt counters and the PPI's modes, and
of RAM (10_state.md R37 to R56). -/

namespace Sys2Proof.Machine

/-- A property that looks at no pending input, refusal mark or memory, and that every instruction without a fault keeps,
is kept by every step without one. -/
theorem step_keeps {P : State → Prop} (pending : ∀ s rest, P s → P (s.setPending rest))
    (instr : ∀ i s t, exec i s = .next t → P s → t.faultMark = none → P t)
    (refuse : ∀ s r, P s → P (s.refuse r)) (call : ∀ s m, P s → P (s.setMem m))
    {s t : State} (hs : P s) (h : step s = .next t) (ht : t.faultMark = none) : P t := by
  refine step_relates (R := fun s t => P s → t.faultMark = none → P t) (fun _ h _ => h)
    (fun s rest _ k h => k (pending s rest h)) instr (fun s t h hs _ => ?_) (fun c s t h hs ht => ?_) h hs ht
  · obtain e | ⟨-, e⟩ := execIllegal_cases s <;> rw [e] at h <;> cases h
    · exact hs
    · exact refuse s _ hs
  · obtain ⟨m, e, -⟩ | ⟨-, f, e⟩ := runHostCall_cases c s <;> rw [e] at h <;> cases h
    · exact call s m hs
    · cases ht

/-! The SyncTimer's widths and pulses. -/

def State.syncAgrees (s : State) : Prop := s.widthsAgree ∧ s.pulsesAgree

theorem State.syncAgrees_congr {s t : State} (hp : t.params = s.params) (hr : Part.crtcRegs.kept s t)
    (hb : Part.beam.kept s t) (h : s.syncAgrees) : t.syncAgrees := by
  obtain ⟨regs, hw, vw⟩ := hr
  obtain ⟨-, -, -, hcount, vcount, inH, inV⟩ := hb
  unfold State.syncAgrees State.widthsAgree State.pulsesAgree State.crtc at *
  rw [hp, regs, hw, vw, hcount, vcount, inH, inV]
  exact h

theorem exec_keeps_syncAgrees {i : Instr} {s t : State} (h : exec i s = .next t) (hs : s.syncAgrees)
    (ht : t.faultMark = none) : t.syncAgrees := by
  cases hf : s.faultMark with
  | some f =>
    rw [exec_stuck hf] at h
    cases h
    exact hs
  | none =>
    cases i
    case crtcWrite p d =>
      rw [exec_crtcWrite hf] at h
      cases h
      obtain ⟨-, e⟩ | ⟨-, e⟩ := reading_cases .crtcSel s fun s => .running (writeCrtc s s.sync.crtcSel d) <;> rw [e] at ht ⊢
      · cases ht
      · rw [Flow.state_running, writeCrtc_eq]
        refine ⟨?_, hs.2⟩
        unfold State.widthsAgree State.crtc
        dsimp only
        by_cases hsw : s.sync.crtcSel = s.params.crtcIndex.sw
        · simp [hsw]
        · have other : s.sync.crtcSel.val ≠ s.params.crtcIndex.sw.val := fun e => hsw (Fin.ext e)
          rw [if_neg hsw, if_neg hsw, Fin.getElem_fin, Vector.getElem_set_ne _ _ other]
          exact hs.1
    case clock =>
      obtain ⟨u, e, b⟩ := clock_beamStep (clockRuns_of_faultFree h ht)
      rw [h] at e
      cases e
      refine ⟨?_, b.pulses hs.1 hs.2⟩
      unfold State.widthsAgree State.crtc
      rw [b.params, b.regs, b.hw, b.vw]
      exact hs.1
    case setTiming r =>
      obtain ⟨f, e, restores⟩ := exec_setTiming_restores hf r
      rw [h] at e
      obtain ⟨-, ⟨-, -, -, hh, hv, hH, hV⟩, rfl⟩ | ⟨m, rfl, -⟩ := restores <;> cases e
      · obtain ⟨hw, vw⟩ := hs.1
        have flag {b : Bool} {n : Nat} (h : b = true ↔ 0 < n) : b = decide (0 < n) := by cases b <;> simp_all
        exact ⟨hs.1, flag hH, flag hV, (hw ▸ hh).trans (width16_range _).2, (vw ▸ hv).trans (width16_range _).2⟩
      · cases ht
    case reset =>
      rw [exec_reset hf] at h
      cases h
      exact resetAll_widthsAgree s
    all_goals
      exact State.syncAgrees_congr (exec_params h) (exec_kept h (by simp [writtenBy])) (exec_kept h (by simp [writtenBy])) hs

/-- Settles O50: the writers of the registers and of the beam keep it. -/
theorem stepKeepsWidthsAndPulses : Obligations.StepKeepsWidthsAndPulses := by
  intro s t hw hp h ht
  exact step_keeps (P := State.syncAgrees) (fun _ _ h => h) (fun _ _ _ => exec_keeps_syncAgrees) (fun _ _ h => h)
    (fun _ _ h => h) ⟨hw, hp⟩ h ht

/-! The interrupt counters. -/

theorem clearBit5_le (n : Nat) : clearBit5 n ≤ n := by
  rw [clearBit5_eq]
  split <;> omega

theorem exec_keeps_irqCounters {i : Instr} {s t : State} (h : exec i s = .next t) (hs : s.irqCountersInRange)
    (ht : t.faultMark = none) : t.irqCountersInRange := by
  cases hf : s.faultMark with
  | some f =>
    rw [exec_stuck hf] at h
    cases h
    exact hs
  | none =>
    cases i
    case palModeRom p d =>
      rw [exec_palModeRom hf] at h
      cases h
      split
      · exact ⟨hs.1, fun _ => Nat.zero_le _⟩
      · exact hs
    case clock =>
      obtain ⟨u, e, b⟩ := clock_beamStep (clockRuns_of_faultFree h ht)
      rw [h] at e
      cases e
      exact b.irqCounters hs
    case intack =>
      rw [exec_intack hf] at h
      cases h
      exact ⟨hs.1, fun hv => (clearBit5_le _).trans (hs.2 hv)⟩
    case restoreIrqCounters r =>
      rw [exec_restoreIrqCounters hf] at h
      cases h
      split at ht
      · next ok =>
        rw [if_pos ok]
        obtain ⟨hv, -, hi⟩ := (irqCountersOk_iff r).1 ok
        exact ⟨hv, fun (h0 : r.vdelay = 0) => hi.resolve_left (by omega)⟩
      · cases ht
    case reset =>
      rw [exec_reset hf] at h
      cases h
      unfold State.irqCountersInRange
      rw [resetAll_pal]
      exact ⟨Nat.zero_le _, fun _ => Nat.zero_le _⟩
    all_goals
      obtain ⟨hi, hv⟩ := exec_kept h (p := .irqCounters) (by simp [writtenBy])
      unfold State.irqCountersInRange
      rw [hi, hv]
      exact hs

/-! The PPI's modes. -/

/-- The bus function and port C's side effects leave the PPI's modes. -/
theorem psgApply_ppi (s : State) (f : PsgFn) (d : Byte) : (psgApply s f d).state.ppi = s.ppi := by
  obtain ⟨c, m, e, -⟩ := psgApply_frame s f d
  rw [e]

theorem portCSideEffectsIfOut_modes (s : State) :
    (portCSideEffectsIfOut s).state.ppi.modeA = s.ppi.modeA ∧ (portCSideEffectsIfOut s).state.ppi.modeB = s.ppi.modeB := by
  unfold portCSideEffectsIfOut portCSideEffects psgControl
  split
  · dsimp only
    rw [psgApply_ppi]
    exact ⟨rfl, rfl⟩
  · exact ⟨rfl, rfl⟩

theorem State.ppiModesZero_congr {s t : State} (hA : t.ppi.modeA = s.ppi.modeA) (hB : t.ppi.modeB = s.ppi.modeB)
    (h : s.ppiModesZero) : t.ppiModesZero := ⟨hA.trans h.1, hB.trans h.2⟩

theorem exec_keeps_ppiModes {i : Instr} {s t : State} (h : exec i s = .next t) (hs : s.ppiModesZero) : t.ppiModesZero := by
  cases hf : s.faultMark with
  | some f =>
    rw [exec_stuck hf] at h
    cases h
    exact hs
  | none =>
    cases i
    case ppiAWr p d =>
      rw [exec_ppiAWr hf] at h
      cases h
      split
      · unfold State.ppiModesZero psgDataBusWrite
        rw [psgApply_ppi]
        exact hs
      · exact hs
    case ppiBWr p d =>
      rw [exec_ppiBWr hf] at h
      cases h
      split <;> exact hs
    case ppiCWr p d =>
      rw [exec_ppiCWr hf, writeHalf_eq, writeHalf_eq] at h
      cases h
      obtain ⟨hA, hB⟩ := portCSideEffectsIfOut_modes { s with ppi := _, draws := _ }
      exact State.ppiModesZero_congr hA hB hs
    case ppiCtrlBsr p d =>
      rw [exec_ppiCtrlBsr hf] at h
      cases h
      obtain ⟨hA, hB⟩ := portCSideEffectsIfOut_modes (s.setPpi { s.ppi with latchC := _ })
      exact State.ppiModesZero_congr hA hB hs
    case ppiCtrlMode p d =>
      rw [exec_ppiCtrlMode hf] at h
      cases h
      split
      · exact hs
      · next hz =>
        rw [not_or, not_not, not_not] at hz
        exact hz
    case reset =>
      rw [exec_reset hf] at h
      cases h
      unfold State.ppiModesZero
      rw [resetAll_ppi]
      exact ⟨rfl, rfl⟩
    all_goals
      have ports := Part.ports_eq_of_kept (exec_kept h (by simp [writtenBy]))
      unfold State.ppiModesZero
      rw [ports]
      exact hs

/-- Settles O51: the writers of the interrupt counters and of the ports keep it. -/
theorem stepKeepsIrqCountersAndModes : Obligations.StepKeepsIrqCountersAndModes := by
  intro s t hi hm h ht
  refine ⟨step_keeps (P := State.irqCountersInRange) (fun _ _ h => h) (fun _ _ _ => exec_keeps_irqCounters)
    (fun _ _ h => h) (fun _ _ h => h) hi h ht, ?_⟩
  exact step_keeps (P := State.ppiModesZero) (fun _ _ h => h) (fun _ _ _ h hs _ => exec_keeps_ppiModes h hs)
    (fun _ _ h => h) (fun _ _ h => h) hm h ht

/-! RAM's canonical form. -/

theorem exec_keeps_ramWf {i : Instr} {s t : State} (h : exec i s = .next t) (hs : s.mem.ram.wf = true) :
    t.mem.ram.wf = true := by
  cases hf : s.faultMark with
  | some f =>
    rw [exec_stuck hf] at h
    cases h
    exact hs
  | none =>
    cases i
    case memWrite a v =>
      rw [exec_memWrite hf] at h
      cases h
      exact Memory.wf_write _ _ v hs (ramAddress_lt s a)
    case reset =>
      rw [exec_reset hf] at h
      cases h
      rw [resetAll_mem]
      rfl
    all_goals
      obtain ⟨ram, -⟩ := exec_kept h (p := .ram) (by simp [writtenBy])
      rw [ram]
      exact hs

/-- Settles O53: a store, a RESET and a bulk load give canonical RAM, a fault changes none of it. -/
theorem stepKeepsMemoryCanonical : Obligations.StepKeepsMemoryCanonical := by
  intro s t hs h
  refine step_relates (R := fun s t => s.mem.ram.wf = true → t.mem.ram.wf = true) (fun _ h => h) (fun _ _ _ k => k)
    (fun _ _ _ => exec_keeps_ramWf) (fun s t h hs => ?_) (fun c s t h hs => ?_) h hs
  · obtain e | ⟨-, e⟩ := execIllegal_cases s <;> rw [e] at h <;> cases h <;> exact hs
  · obtain ⟨m, e, ram | ⟨bytes, hl, ram⟩⟩ | ⟨-, f, e⟩ := runHostCall_cases c s <;> rw [e] at h <;> cases h
    · exact ram ▸ hs
    · rw [State.setMem_mem, ram]
      exact Memory.wf_bulk _ bytes hs hl
    · exact hs

end Sys2Proof.Machine
end

section
/-! Proofs of family other: memory reads, the host's memory calls and the PPI (20_memory.md, 43_ppi.md). -/

namespace Sys2Proof.Machine

/-! Memory reads. -/

theorem memReadByte_lower {s : State} {a : Addr} (h : a.toNat < 0x4000) (he : s.pal.lowerRomEn = true) :
    memReadByte s a = readRom s 255 a := if_pos ⟨h, he⟩

theorem memReadByte_upper {s : State} {a : Addr} (h : 0xC000 ≤ a.toNat) (he : s.pal.upperRomEn = true) :
    memReadByte s a = readRom s (upperSlot s) a := by
  unfold memReadByte
  rw [if_neg (fun hl => by omega), if_pos ⟨h, he⟩]

theorem memReadByte_ram {s : State} {a : Addr} (h : ¬ s.overlaid a) :
    memReadByte s a = readRam s (ramAddress s a) := by
  unfold memReadByte
  rw [if_neg (fun hl => h (.inl hl)), if_neg (fun hu => h (.inr hu))]

theorem romByte_eq (img : RomImage) (a : Addr) : romByte img a = img[a.toNat % 0x4000]'(Nat.mod_lt _ (by decide)) := by
  simp only [romByte, offset_toNat]

theorem readRom_some {s : State} {i : Byte} {img : RomImage} (h : romSlot s i = some img) (a : Addr) :
    readRom s i a = .ok (img[a.toNat % 0x4000]'(Nat.mod_lt _ (by decide))) := by
  unfold readRom
  rw [h, ← romByte_eq]

theorem readRom_none {s : State} {i : Byte} (h : romSlot s i = none) (a : Addr) :
    readRom s i a = .error (.romAbsent i) := by
  unfold readRom
  rw [h]

theorem upperSlot_some {s : State} {img : RomImage} (h : romSlot s s.mem.upperRomSel = some img) :
    upperSlot s = s.mem.upperRomSel := by
  unfold upperSlot
  rw [h]
  rfl

theorem upperSlot_none {s : State} (h : romSlot s s.mem.upperRomSel = none) : upperSlot s = 0 := by
  unfold upperSlot
  rw [h]
  rfl

/-- Settles O12: by what serves the read (R94). -/
theorem memReadFollowsOverlayThenBankTable : Obligations.MemReadFollowsOverlayThenBankTable := by
  intro a s hf
  refine ⟨fun ha he => ?_, fun ha he => ?_, fun ho => ?_, fun w hw haw => ?_⟩
  · rw [exec_memRead hf, memReadByte_lower ha he]
    refine ⟨fun img h => ?_, fun h => ?_⟩
    · rw [readRom_some (s := s) (i := 255) h]
      rfl
    · rw [readRom_none (s := s) (i := 255) h]
      rfl
  · rw [exec_memRead hf, memReadByte_upper ha he]
    refine ⟨fun img h => by rw [upperSlot_some h, readRom_some h]; rfl, fun h => ?_⟩
    rw [upperSlot_none h]
    refine ⟨fun img h0 => ?_, fun h0 => ?_⟩
    · rw [readRom_some (s := s) (i := 0) h0]
      rfl
    · rw [readRom_none (s := s) (i := 0) h0]
      rfl
  · rw [exec_memRead hf, memReadByte_ram ho]
    refine ⟨fun h => ?_, fun hu hn => ?_⟩ <;> unfold readRam
    · rw [if_neg (fun ⟨hu, hn⟩ => by simp [hu, hn] at h)]
      rfl
    · rw [if_pos ⟨hu, hn⟩]
      rfl
  · subst haw
    unfold ramAddress
    simp only [window_toNat, offset_toNat]

/-- A store leaves every read that it does not reach (R97, R104). -/
theorem memReadByte_memWriteByte_of_ne {s : State} {a b : Addr} (v : Byte)
    (h : s.overlaid b ∨ ramAddress s b ≠ ramAddress s a) : memReadByte (memWriteByte s a v) b = memReadByte s b := by
  by_cases ho : s.overlaid b
  · obtain ⟨hl, he⟩ | ⟨hu, he⟩ := ho
    · rw [memReadByte_lower hl he, memReadByte_lower (s := memWriteByte s a v) hl he]
      rfl
    · rw [memReadByte_upper hu he, memReadByte_upper (s := memWriteByte s a v) hu he]
      rfl
  · rw [memReadByte_ram ho, memReadByte_ram (s := memWriteByte s a v) ho]
    have other : (memWriteByte s a v).mem.ram.read (ramAddress s b) = s.mem.ram.read (ramAddress s b) :=
      Memory.read_write_other _ _ _ _ (h.resolve_left ho)
    show readRam (memWriteByte s a v) (ramAddress s b) = _
    unfold readRam ramByte
    rw [other]
    rfl

/-- A store reaches the reads of its byte that no overlay serves (R104). -/
theorem memReadByte_memWriteByte_same {s : State} {a b : Addr} (v : Byte) (ho : ¬ s.overlaid b)
    (h : ramAddress s b = ramAddress s a) : memReadByte (memWriteByte s a v) b = .ok v := by
  rw [memReadByte_ram (s := memWriteByte s a v) ho]
  have same : (memWriteByte s a v).mem.ram.read (ramAddress s b) = some v := by
    rw [h]
    exact Memory.read_write_same _ _ _
  show readRam (memWriteByte s a v) (ramAddress s b) = _
  unfold readRam ramByte
  rw [same]
  simp

/-- Settles O14: the store is seen exactly through its byte. -/
theorem readAfterWriteThroughBanks : Obligations.ReadAfterWriteThroughBanks := by
  intro a b v s hf
  refine ⟨_, _, _, exec_memWrite hf a v, exec_memRead (s := memWriteByte s a v) hf b, exec_memRead hf b,
    fun ho h => ?_, fun h => ?_⟩
  · rw [memReadByte_memWriteByte_same v ho h]
    exact ⟨rfl, hf⟩
  · rw [memReadByte_memWriteByte_of_ne v h]
    cases memReadByte s b <;> exact ⟨rfl, rfl⟩

/-! The host's memory calls. -/

/-- Settles O15: each call by its bounds (R98, R101). -/
theorem hostMemoryCallsActOrFault : Obligations.HostMemoryCallsActOrFault := by
  intro s hf
  refine ⟨fun i bytes => ⟨fun hi hl => ?_, fun h => ?_, fun hi => ?_, fun hi => ?_⟩, fun bytes n => ⟨fun h => ?_, fun h => ?_⟩,
    fun i => ⟨fun hi => ?_, fun hi => ?_⟩⟩
  · exact ⟨⟨bytes.toArray, by simpa using hl⟩, rfl, by rw [runHostCall_loadROM hf, loadROM_ok ⟨hi, hl⟩]; rfl⟩
  · rw [runHostCall_loadROM hf, loadROM_bad h]
    rfl
  · rw [runHostCall_unloadROM hf, unloadROM_ok hi]
    rfl
  · rw [runHostCall_unloadROM hf, unloadROM_bad (Nat.not_lt.2 hi)]
    rfl
  · refine ⟨_, by rw [runHostCall_bulkLoadRAM hf, bulkLoadRAM_ok h]; rfl, fun k hk => ?_, fun k hk => ?_⟩ <;>
      rw [read_cellsFrom_append]
    · rw [dif_pos ⟨Nat.zero_le k, hk⟩]
      rfl
    · rw [dif_neg (fun h => Nat.not_lt.2 hk h.2), Memory.read_filter _ _ _ hk]
  · rw [runHostCall_bulkLoadRAM hf, bulkLoadRAM_bad h]
    rfl
  · rw [runHostCall_selectBank hf, selectBank_lt hi]
    rfl
  · rw [runHostCall_selectBank hf, selectBank_ge hi]
    rfl

/-! PPI ports A and B. -/

/-- Settles O16: an output write by the bus function in force, an input write by the draw. -/
theorem ppiPortAWriteAppliesBusFunction : Obligations.PpiPortAWriteAppliesBusFunction := by
  intro p d s hf
  rw [exec_ppiAWr hf, psgDataBusWrite, State.setPpi_psg]
  refine ⟨fun ho hfn => ?_, fun ho hfn => ?_, fun ho hfn h => ?_, fun ho hfn h => ?_, fun hi => ?_⟩
  · rw [if_pos ho]
    obtain hfn | hfn := hfn <;> rw [hfn] <;> rfl
  · rw [if_pos ho, hfn]
    rfl
  · rw [if_pos ho, hfn, psgApply_select, psgSelect_lt h]
    rfl
  · refine ⟨_, rfl, ?_⟩
    rw [if_pos ho, hfn, psgApply_select, psgSelect_ge h]
    rfl
  · rw [if_neg (by rw [hi]; decide)]
    rfl

/-- Settles O17: by port A's direction, the bus function and the selected register. -/
theorem ppiPortAReadGivesLatchOrBus : Obligations.PpiPortAReadGivesLatchOrBus := by
  intro p s hf
  rw [exec_ppiARd hf, psgBusRead]
  refine ⟨fun ho => ?_, fun hi hfn hsel => ?_, fun hi hfn hsel => ?_, fun hi hfn => ?_⟩
  · rw [if_neg (by rw [ho]; decide)]
    rfl
  · rw [if_pos hi, if_pos hfn, if_neg hsel]
    rfl
  · rw [if_pos hi, if_pos hfn, if_pos hsel]
    rfl
  · rw [if_pos hi, if_neg hfn]
    rfl

/-- The status byte: `inV` in bit 0, PORTB_STATIC above it (R301). -/
theorem portBStatus_getLsbD (q : Params) (inV : Bool) : (portBStatus q inV).getLsbD 0 = inV ∧
    ∀ k, 1 ≤ k → k < 8 → (portBStatus q inV).getLsbD k = q.portBStatic.getLsbD k := by
  unfold portBStatus
  refine ⟨by cases inV <;> simp, fun k h1 h8 => ?_⟩
  have mask : (0xFE : Byte).getLsbD k = true := by interval_cases k <;> rfl
  have flag : (if inV then 1 else 0 : Byte).getLsbD k = false := by
    cases inV
    · simp
    · interval_cases k <;> rfl
  rw [BitVec.getLsbD_or, BitVec.getLsbD_and, mask, flag, Bool.and_true, Bool.or_false]

/-- Settles O18: by port B's direction. -/
theorem ppiPortBReadsStatusAndLatches : Obligations.PpiPortBReadsStatusAndLatches := by
  intro p d s hf
  obtain ⟨bit0, bits⟩ := portBStatus_getLsbD s.params s.sync.inV
  rw [exec_ppiBRd hf, exec_ppiBWr hf]
  refine ⟨fun hi => ⟨portBStatus s.params s.sync.inV, ?_, bit0, bits⟩, fun ho => ?_, fun ho => ?_, fun hi => ?_⟩
  · rw [if_pos hi]
    rfl
  · rw [if_neg (by rw [ho]; decide)]
    rfl
  · rw [if_pos ho]
    rfl
  · rw [if_neg (by rw [hi]; decide)]
    rfl

/-! PPI port C. -/

/-- The nibbles of a byte put together. -/
theorem fromNibbles_halves (hi lo : BitVec 4) :
    (fromNibbles hi lo).toNat / 16 = hi.toNat ∧ (fromNibbles hi lo).toNat % 16 = lo.toNat := by
  have := lo.isLt
  rw [fromNibbles_toNat]
  omega

/-- Settles O19: half by half. -/
theorem ppiPortCReadsHalves : Obligations.PpiPortCReadsHalves := by
  intro p s hf
  have run := exec_ppiCRd hf p
  simp only [readHalf_eq] at run
  obtain ⟨high, low⟩ := fromNibbles_halves
    (if s.ppi.dirCu = .OUT then highNibble s.ppi.latchC else Config.drawNibble s.draws)
    (if s.ppi.dirCl = .OUT then lowNibble s.ppi.latchC
      else Config.drawNibble (s.draws + if s.ppi.dirCu = .OUT then 0 else 1))
  refine ⟨_, run, fun h => ?_, fun h => ?_, fun h => ?_, fun h => ?_⟩
  · rw [high, if_pos h, highNibble_toNat]
  · rw [low, if_pos h, lowNibble_toNat]
  · rw [high, if_neg (by rw [h]; decide)]
  · rw [low, if_neg (by rw [h]; decide)]

theorem psgFnOfLatch_eq (q : Params) (c : Byte) :
    psgFnOfLatch q c = q.psgFnOf[c.toNat / 64]'(by have := c.isLt; omega) := by
  have field : (c.extractLsb' 6 2).toNat = c.toNat / 64 := by
    have := c.isLt
    simp [BitVec.extractLsb'_toNat, Nat.shiftRight_eq_div_pow]
    omega
  simp only [psgFnOfLatch, field]

/-- Port C's side effects run once, on the latch just written (R293, R332, R335). -/
theorem portCSideEffects_pushed (s : State) (c : Byte) :
    portCPushed s c (portCSideEffects (s.setPpi { s.ppi with latchC := c })).state := by
  have pushed : portCSideEffects (s.setPpi { s.ppi with latchC := c }) =
      psgApply { s with
        ppi := { s.ppi with latchC := c, kbdRow := BitVec.ofNat 4 (c.toNat % 16) }
        psg := { s.psg with psgFn := psgFnOfLatch s.params c }
        trace := s.trace ++ [.kbdRow (BitVec.ofNat 4 (c.toNat % 16))] } (psgFnOfLatch s.params c) s.ppi.latchA := by
    rw [← lowNibble_eq_ofNat]
    rfl
  rw [pushed, psgFnOfLatch_eq]
  unfold portCPushed
  intro f base
  refine ⟨fun h => ?_, fun h => ?_, fun h lt => ?_, fun h ge => ?_⟩
  · show (psgApply base f s.ppi.latchA).state = base
    obtain h | h := h <;> rw [h] <;> rfl
  · show (psgApply base f s.ppi.latchA).state = _
    rw [h]
    rfl
  · show (psgApply base f s.ppi.latchA).state = _
    rw [h, psgApply_select, psgSelect_lt lt]
    rfl
  · show (psgApply base f s.ppi.latchA).state.faultMark = _
    rw [h, psgApply_select, psgSelect_ge ge]
    rfl

theorem portCSideEffectsIfOut_out {s : State} (h : s.ppi.dirCu = .OUT ∨ s.ppi.dirCl = .OUT) :
    portCSideEffectsIfOut s = portCSideEffects s := if_pos h

theorem portCSideEffectsIfOut_in {s : State} (hu : s.ppi.dirCu = .IN) (hl : s.ppi.dirCl = .IN) :
    portCSideEffectsIfOut s = .running s := if_neg (by simp [hu, hl])

/-- A write of port C's latch pushes once where a half is OUT, and not at all otherwise (R300, R304). -/
theorem portCSideEffectsIfOut_cases (s : State) (c : Byte) :
    ((s.ppi.dirCu = .OUT ∨ s.ppi.dirCl = .OUT) →
      portCPushed s c (portCSideEffectsIfOut (s.setPpi { s.ppi with latchC := c })).state) ∧
    ((s.ppi.dirCu = .IN ∧ s.ppi.dirCl = .IN) →
      (portCSideEffectsIfOut (s.setPpi { s.ppi with latchC := c })).state = s.setPpi { s.ppi with latchC := c }) := by
  refine ⟨fun h => ?_, fun ⟨hu, hl⟩ => ?_⟩
  · rw [portCSideEffectsIfOut_out (s := s.setPpi { s.ppi with latchC := c }) h]
    exact portCSideEffects_pushed s c
  · rw [portCSideEffectsIfOut_in (s := s.setPpi { s.ppi with latchC := c }) hu hl]
    rfl

/-- Settles O20: the latch half by half, then the push. -/
theorem ppiPortCWritePushesOnce : Obligations.PpiPortCWritePushesOnce := by
  intro p d s hf
  have run := exec_ppiCWr hf p d
  simp only [writeHalf_eq] at run
  let n := s.draws + (if s.ppi.dirCu = .OUT then 0 else 1) + (if s.ppi.dirCl = .OUT then 0 else 1)
  let hi := if s.ppi.dirCu = .OUT ∨ Config.drawTakesNew s.draws = true then highNibble d else highNibble s.ppi.latchC
  let lo := if s.ppi.dirCl = .OUT ∨ Config.drawTakesNew (s.draws + if s.ppi.dirCu = .OUT then 0 else 1) = true then
    lowNibble d else lowNibble s.ppi.latchC
  obtain ⟨high, low⟩ := fromNibbles_halves hi lo
  obtain ⟨pushed, quiet⟩ := portCSideEffectsIfOut_cases { s with draws := n } (fromNibbles hi lo)
  refine ⟨fromNibbles hi lo, n, _, run, rfl, ?_, ?_, pushed, quiet⟩
  · rw [high, apply_ite BitVec.toNat, highNibble_toNat, highNibble_toNat]
  · rw [low, apply_ite BitVec.toNat, lowNibble_toNat, lowNibble_toNat]

/-- Settles O22: one bit of the latch, then the push. -/
theorem ppiBitSetResetPushesOnce : Obligations.PpiBitSetResetPushesOnce := by
  intro p d s hf
  obtain ⟨pushed, quiet⟩ := portCSideEffectsIfOut_cases s (setBit s.ppi.latchC (bsrIndex d) (d.getLsbD 0))
  refine ⟨setBit s.ppi.latchC (bsrIndex d) (d.getLsbD 0), _, exec_ppiCtrlBsr hf p d, fun k hk => ?_, pushed, quiet⟩
  rw [setBit_getLsbD _ _ _ _ hk, bsrIndex_toNat]

/-! PPI control. -/

theorem groupAMode_eq_zero_iff (d : Byte) : groupAMode d = 0 ↔ d.toNat / 32 % 4 = 0 := by
  rw [← BitVec.toNat_inj, groupAMode_toNat]
  rfl

theorem groupBMode_eq_zero_iff (d : Byte) : groupBMode d = 0 ↔ d.getLsbD 2 = false := by
  unfold groupBMode
  rw [← BitVec.toNat_inj, BitVec.extractLsb'_toNat, BitVec.getLsbD, Nat.testBit]
  simp

/-- Settles O21: by the mode fields. -/
theorem ppiModeSetWritesDirectionsOrRefuses : Obligations.PpiModeSetWritesDirectionsOrRefuses := by
  intro p d s hf
  rw [exec_ppiCtrlMode hf]
  refine ⟨fun hA hB => ?_, fun h => ?_⟩
  · have zeroA := (groupAMode_eq_zero_iff d).2 hA
    have zeroB := (groupBMode_eq_zero_iff d).2 hB
    rw [zeroA, zeroB, if_neg (by simp)]
    rfl
  · have nonzero : groupAMode d ≠ 0 ∨ groupBMode d ≠ 0 := by
      rw [ne_eq, ne_eq, groupAMode_eq_zero_iff, groupBMode_eq_zero_iff, Bool.not_eq_false]
      exact h
    rw [if_pos nonzero]
    rfl

end Sys2Proof.Machine
end

section
/-! Proofs of family other: RESET and the machine's first state (70_reset_and_hazards.md, 46_host_ops.md R410). -/

namespace Sys2Proof.Machine

/-! RESET. -/

/-- A register component with an unknown reset value is in the list of R490, but for the derived widths. -/
theorem mem_unknownAtReset (c : Component) (hram : ∀ a, c ≠ .ramByte a) (hhw : c ≠ .hw) (hvw : c ≠ .vw) :
    c ∈ unknownAtReset := by
  cases c with
  | ramByte a => exact absurd rfl (hram a)
  | hw => exact absurd rfl hhw
  | vw => exact absurd rfl hvw
  | crtcReg i => simp [unknownAtReset]
  | pen i => simp [unknownAtReset]
  | crtcSel => simp [unknownAtReset]
  | selPen => simp [unknownAtReset]
  | mode => simp [unknownAtReset]

/-- After RESET every unknown component is unwritten exactly under RESET_UNKNOWN = fault (R490). -/
theorem isUnwritten_resetAll (s : State) (c : Component) (hram : ∀ a, c ≠ .ramByte a) :
    isUnwritten (resetAll s) c = decide (s.params.resetUnknown = .fault) := by
  have listed (c : Component) (hram : ∀ a, c ≠ .ramByte a) (hhw : c ≠ .hw) (hvw : c ≠ .vw) :
      unknownAtReset.contains c = true := List.contains_iff_mem.2 (mem_unknownAtReset c hram hhw hvw)
  have sw := listed (.crtcReg s.params.crtcIndex.sw) (by simp) (by simp) (by simp)
  unfold isUnwritten
  rw [resetAll_params, resetAll_unwritten]
  cases s.params.resetUnknown with
  | draw => rfl
  | fault =>
    rw [if_pos rfl]
    cases c with
    | hw => exact sw
    | vw => exact sw
    | ramByte a => exact absurd rfl (hram a)
    | crtcReg i => exact listed _ hram (by simp) (by simp)
    | pen i => exact listed _ hram (by simp) (by simp)
    | crtcSel => exact listed _ hram (by simp) (by simp)
    | selPen => exact listed _ hram (by simp) (by simp)
    | mode => exact listed _ hram (by simp) (by simp)

theorem SoundChip.reset_regs (e : BitVec 4) (i : Fin 16) : (SoundChip.reset e).regs[i] = 0 := by
  simp [SoundChip.reset]

theorem SoundChip.reset_channels (e : BitVec 4) :
    ∀ g ∈ [SoundChip.chA, SoundChip.chB, SoundChip.chC], g (SoundChip.reset e) = Channel.reset := by
  simp [SoundChip.reset]

theorem resetPalette_pen (s : State) (i : Fin 17) : (resetPalette s).pal.pens[i] = Config.drawPen s.draws i := by
  simp [resetPalette]

theorem ramByte_resetAll (s : State) (a : Nat) :
    (resetAll s).mem.ram.read a = none ∧ ramByte (resetAll s) a = Config.drawRamByte s.draws a := by
  unfold ramByte
  rw [resetAll_mem]
  exact ⟨rfl, rfl⟩

/-- Settles O40: component by component, by what `resetAll` gives each chip. -/
theorem resetGivesStatedValues : Obligations.ResetGivesStatedValues := by
  intro s hf
  obtain ⟨widths, -⟩ := resetAll_widthsAgree s
  refine ⟨resetAll s, exec_reset hf, ?_⟩
  rw [resetAll_psg, resetAll_sync, resetAll_pal]
  exact ⟨SoundChip.reset_regs _, rfl, rfl, SoundChip.reset_channels _, rfl, rfl, rfl, rfl, rfl, rfl, rfl, rfl, rfl, rfl,
    rfl, fun e => envLevel_zero (shape := 0), rfl, rfl, rfl, resetSync_reg s, widths, rfl, resetPalette_pen s, rfl, rfl, rfl, rfl, rfl,
    rfl, rfl, rfl, rfl, rfl, rfl, rfl, rfl, resetAll_irq s, resetAll_ppi s, by simp, by simp, by simp, ramByte_resetAll s,
    resetAll_draws s, isUnwritten_resetAll s, resetAll_params s, resetAll_trace s, (resetAll_faultMark s).trans hf,
    resetAll_refusalMark s, resetAll_pending s, resetAll_returned s⟩

/-! The first state. -/

/-- Settles O41: the SoundChip's reset, and the fields of `State.reset`. -/
theorem resetStateHoldsStatedValues : Obligations.ResetStateHoldsStatedValues :=
  ⟨SoundChip.reset_regs 15, rfl, rfl, SoundChip.reset_channels 15, rfl, rfl, rfl, rfl, rfl, rfl, rfl, rfl, rfl, rfl, rfl,
    rfl, rfl, rfl, rfl, rfl, rfl, rfl, rfl, rfl, rfl, rfl, rfl, rfl, rfl, rfl, rfl, rfl, rfl, rfl, rfl, rfl, rfl⟩

/-- The reference profile meets the constraints; SAMPLE_DECIMATION is open and at least 1 (R391). -/
theorem reference_wf : Params.reference.wf = true := by
  have decimation : decide (1 ≤ Params.reference.sampleDecimation) = true :=
    decide_eq_true (Nat.le_add_left 1 Config.sampleDecimationPred)
  unfold Params.wf
  rw [decimation, Bool.and_true]
  decide

/-- Settles O54: the first state's chips, and the reference profile's constraints. -/
theorem resetMeetsTheInvariants : Obligations.ResetMeetsTheInvariants := by
  obtain ⟨agrees, envelope, inRange⟩ := SoundChip.reset_consistent reference_wf
  have level : envLevel Params.reference 0 0 = 15 := rfl
  rw [level] at agrees envelope inRange
  have widths : State.reset.widthsAgree ∧ State.reset.pulsesAgree ∧ State.reset.irqCountersInRange ∧
      State.reset.ppiModesZero := by
    unfold State.widthsAgree State.pulsesAgree State.irqCountersInRange State.ppiModesZero
    decide
  have position : State.reset.positionInRange := by
    unfold State.positionInRange
    decide
  obtain ⟨hwidths, hpulses, hirq, hmodes⟩ := widths
  exact ⟨reference_wf, rfl, hwidths, hpulses, hirq, hmodes, agrees, envelope, inRange, reset_memory_wf, position,
    State.allWritten_of_empty rfl⟩

end Sys2Proof.Machine
end
